-- ==== Sys2Proof/Word.lean ====
section
/-! DEFINITION. The two bit-vector types of the datapaths (00_scope.md R10). -/

namespace Sys2Proof

/-- A byte: 8 bits (R10). -/
abbrev Byte := BitVec 8

/-- A word: 32 bits, always unsigned; `+` on words is addition modulo 2^32 (R10, R12). -/
abbrev Word := BitVec 32

end Sys2Proof
end

