-- ==== Sys2Proof/Syntax.lean ====
section
/-! DEFINITION. Commands, the three kinds of code word, and the instructions: one constructor of `Instr` per row of
spec/opcode_table.json, in the table's order. -/

namespace Sys2Proof

/-- The engine a command word selects, bit 2 of the word (30_encoding.md R81). -/
inductive Alg where
  | md5
  | sha1
deriving DecidableEq, Repr

/-- The operation field of a command word, bits 1 to 0 (30_encoding.md R82). -/
inductive Op where
  | create
  | append
  | finalize
  | render
deriving DecidableEq, Repr

/-- A command as the host sends it: an 8-bit word and a payload beside it (30_encoding.md R80). -/
structure Cmd where
  word : Byte
  payload : List Byte
deriving DecidableEq, Repr

/-- A code word of one of the three formats of the opcode table (30_encoding.md R89): a command of the host,
or the step index of an engine's sequencer. -/
inductive Code where
  /-- format CMD: 8 bits, the payload beside them (R80, R81) -/
  | cmd (c : Cmd)
  /-- format MD5_STEP: 6 bits (R87) -/
  | md5Step (i : BitVec 6)
  /-- format SHA1_STEP: 7 bits (R88) -/
  | sha1Step (t : BitVec 7)
deriving DecidableEq, Repr

/-- The instructions: the eight host commands (40_commands.md), the 64 steps of the MD5 datapath
(42_md5_compress.md) and the 80 steps of the SHA-1 datapath (43_sha1_compress.md). -/
inductive Instr where
  | md5Create
  | md5Append (payload : List Byte)
  | md5Finalize
  | md5Render
  | sha1Create
  | sha1Append (payload : List Byte)
  | sha1Finalize
  | sha1Render
  | md5Step0
  | md5Step1
  | md5Step2
  | md5Step3
  | md5Step4
  | md5Step5
  | md5Step6
  | md5Step7
  | md5Step8
  | md5Step9
  | md5Step10
  | md5Step11
  | md5Step12
  | md5Step13
  | md5Step14
  | md5Step15
  | md5Step16
  | md5Step17
  | md5Step18
  | md5Step19
  | md5Step20
  | md5Step21
  | md5Step22
  | md5Step23
  | md5Step24
  | md5Step25
  | md5Step26
  | md5Step27
  | md5Step28
  | md5Step29
  | md5Step30
  | md5Step31
  | md5Step32
  | md5Step33
  | md5Step34
  | md5Step35
  | md5Step36
  | md5Step37
  | md5Step38
  | md5Step39
  | md5Step40
  | md5Step41
  | md5Step42
  | md5Step43
  | md5Step44
  | md5Step45
  | md5Step46
  | md5Step47
  | md5Step48
  | md5Step49
  | md5Step50
  | md5Step51
  | md5Step52
  | md5Step53
  | md5Step54
  | md5Step55
  | md5Step56
  | md5Step57
  | md5Step58
  | md5Step59
  | md5Step60
  | md5Step61
  | md5Step62
  | md5Step63
  | sha1Step0
  | sha1Step1
  | sha1Step2
  | sha1Step3
  | sha1Step4
  | sha1Step5
  | sha1Step6
  | sha1Step7
  | sha1Step8
  | sha1Step9
  | sha1Step10
  | sha1Step11
  | sha1Step12
  | sha1Step13
  | sha1Step14
  | sha1Step15
  | sha1Step16
  | sha1Step17
  | sha1Step18
  | sha1Step19
  | sha1Step20
  | sha1Step21
  | sha1Step22
  | sha1Step23
  | sha1Step24
  | sha1Step25
  | sha1Step26
  | sha1Step27
  | sha1Step28
  | sha1Step29
  | sha1Step30
  | sha1Step31
  | sha1Step32
  | sha1Step33
  | sha1Step34
  | sha1Step35
  | sha1Step36
  | sha1Step37
  | sha1Step38
  | sha1Step39
  | sha1Step40
  | sha1Step41
  | sha1Step42
  | sha1Step43
  | sha1Step44
  | sha1Step45
  | sha1Step46
  | sha1Step47
  | sha1Step48
  | sha1Step49
  | sha1Step50
  | sha1Step51
  | sha1Step52
  | sha1Step53
  | sha1Step54
  | sha1Step55
  | sha1Step56
  | sha1Step57
  | sha1Step58
  | sha1Step59
  | sha1Step60
  | sha1Step61
  | sha1Step62
  | sha1Step63
  | sha1Step64
  | sha1Step65
  | sha1Step66
  | sha1Step67
  | sha1Step68
  | sha1Step69
  | sha1Step70
  | sha1Step71
  | sha1Step72
  | sha1Step73
  | sha1Step74
  | sha1Step75
  | sha1Step76
  | sha1Step77
  | sha1Step78
  | sha1Step79
deriving DecidableEq, Repr

end Sys2Proof
end

