-- ==== Sys2Proof/WellFormed.lean ====
section
/-! DEFINITION. Which code words are legal. A term of `Instr` needs no check: its constructors are exactly the
rows of the table, and a payload is any byte sequence (30_encoding.md R85). -/

namespace Sys2Proof

/-- The eight legal command words are 0x00 to 0x07 (30_encoding.md R83, R84); the payload is any (R80). -/
def Cmd.wf (c : Cmd) : Bool := decide (c.word.toNat < 8)

/-- A legal code word: a legal command, any MD5 step index (R87), a SHA-1 step index below 80 (R88, U13). -/
def Code.wf : Code → Bool
  | .cmd c => c.wf
  | .md5Step _ => true
  | .sha1Step t => decide (t.toNat < 80)

end Sys2Proof
end

