-- ==== Sys2Proof/Decode.lean ====
section
/-! DEFINITION. The decoder of the three code formats, total on any word and refusing by name, and the encoder. -/

namespace Sys2Proof

/-! ## Command words (30_encoding.md R81 to R84) -/

/-- Bits 7 to 3 of a command word, `rsv` (R81). -/
def Cmd.rsv (c : Cmd) : BitVec 5 := c.word.extractLsb' 3 5

/-- The engine bit 2 of a command word selects, for a legal and for an illegal word (R81, R84). -/
def algOfWord (w : Byte) : Alg := if w.getLsbD 2 then .sha1 else .md5

/-- The operation in bits 1 to 0 of a command word (R82). -/
def opOfWord (w : Byte) : Op :=
  match (w.extractLsb' 0 2).toNat with
  | 0 => .create
  | 1 => .append
  | 2 => .finalize
  | _ => .render

/-- Why a code word is no instruction. -/
inductive DecodeError where
  /-- a command word with nonzero reserved bits: the machine raises ILLEGAL_CMD (R84, R252) -/
  | illegalCmd (word : Byte)
  /-- a SHA-1 step index of 80 or more: never occurs (R88, U13) -/
  | reservedStep (t : BitVec 7)
deriving DecidableEq, Repr

/-- The command of an engine, an operation and a payload; only APPEND takes the payload (R80, R85). -/
def commandInstr (alg : Alg) (op : Op) (payload : List Byte) : Instr :=
  match alg, op with
  | .md5, .create => .md5Create
  | .md5, .append => .md5Append payload
  | .md5, .finalize => .md5Finalize
  | .md5, .render => .md5Render
  | .sha1, .create => .sha1Create
  | .sha1, .append => .sha1Append payload
  | .sha1, .finalize => .sha1Finalize
  | .sha1, .render => .sha1Render

/-- Decoding a command: reserved bits first, then the engine and the operation (R81 to R84). -/
def decodeCmd (c : Cmd) : Except DecodeError Instr :=
  if c.rsv = 0 then .ok (commandInstr (algOfWord c.word) (opOfWord c.word) c.payload)
  else .error (.illegalCmd c.word)

/-! ## Step indices (30_encoding.md R87, R88) -/

def md5StepTable0 : List Instr :=
  [.md5Step0, .md5Step1, .md5Step2, .md5Step3, .md5Step4, .md5Step5, .md5Step6, .md5Step7, .md5Step8, .md5Step9, .md5Step10, .md5Step11, .md5Step12, .md5Step13, .md5Step14, .md5Step15]

def md5StepTable1 : List Instr :=
  [.md5Step16, .md5Step17, .md5Step18, .md5Step19, .md5Step20, .md5Step21, .md5Step22, .md5Step23, .md5Step24, .md5Step25, .md5Step26, .md5Step27, .md5Step28, .md5Step29, .md5Step30, .md5Step31]

def md5StepTable2 : List Instr :=
  [.md5Step32, .md5Step33, .md5Step34, .md5Step35, .md5Step36, .md5Step37, .md5Step38, .md5Step39, .md5Step40, .md5Step41, .md5Step42, .md5Step43, .md5Step44, .md5Step45, .md5Step46, .md5Step47]

def md5StepTable3 : List Instr :=
  [.md5Step48, .md5Step49, .md5Step50, .md5Step51, .md5Step52, .md5Step53, .md5Step54, .md5Step55, .md5Step56, .md5Step57, .md5Step58, .md5Step59, .md5Step60, .md5Step61, .md5Step62, .md5Step63]

/-- MD5.STEP0 to MD5.STEP63 in index order (R87). -/
def md5StepTable : List Instr :=
  md5StepTable0 ++ md5StepTable1 ++ md5StepTable2 ++ md5StepTable3

def sha1StepTable0 : List Instr :=
  [.sha1Step0, .sha1Step1, .sha1Step2, .sha1Step3, .sha1Step4, .sha1Step5, .sha1Step6, .sha1Step7, .sha1Step8, .sha1Step9, .sha1Step10, .sha1Step11, .sha1Step12, .sha1Step13, .sha1Step14, .sha1Step15]

def sha1StepTable1 : List Instr :=
  [.sha1Step16, .sha1Step17, .sha1Step18, .sha1Step19, .sha1Step20, .sha1Step21, .sha1Step22, .sha1Step23, .sha1Step24, .sha1Step25, .sha1Step26, .sha1Step27, .sha1Step28, .sha1Step29, .sha1Step30, .sha1Step31]

def sha1StepTable2 : List Instr :=
  [.sha1Step32, .sha1Step33, .sha1Step34, .sha1Step35, .sha1Step36, .sha1Step37, .sha1Step38, .sha1Step39, .sha1Step40, .sha1Step41, .sha1Step42, .sha1Step43, .sha1Step44, .sha1Step45, .sha1Step46, .sha1Step47]

def sha1StepTable3 : List Instr :=
  [.sha1Step48, .sha1Step49, .sha1Step50, .sha1Step51, .sha1Step52, .sha1Step53, .sha1Step54, .sha1Step55, .sha1Step56, .sha1Step57, .sha1Step58, .sha1Step59, .sha1Step60, .sha1Step61, .sha1Step62, .sha1Step63]

def sha1StepTable4 : List Instr :=
  [.sha1Step64, .sha1Step65, .sha1Step66, .sha1Step67, .sha1Step68, .sha1Step69, .sha1Step70, .sha1Step71, .sha1Step72, .sha1Step73, .sha1Step74, .sha1Step75, .sha1Step76, .sha1Step77, .sha1Step78, .sha1Step79]

/-- SHA1.STEP0 to SHA1.STEP79 in index order (R88). -/
def sha1StepTable : List Instr :=
  sha1StepTable0 ++ sha1StepTable1 ++ sha1StepTable2 ++ sha1StepTable3 ++ sha1StepTable4

/-- The micro-operation of MD5 step index `i`. -/
def md5StepInstr (i : Fin 64) : Instr := md5StepTable.get (i.cast rfl)

/-- The micro-operation of SHA-1 step index `t`. -/
def sha1StepInstr (t : Fin 80) : Instr := sha1StepTable.get (t.cast rfl)

/-! ## All three formats -/

/-- The instruction of a code word, or the reason it is none. -/
def decode : Code → Except DecodeError Instr
  | .cmd c => decodeCmd c
  | .md5Step i => .ok (md5StepInstr i.toFin)
  | .sha1Step t => if h : t.toNat < 80 then .ok (sha1StepInstr ⟨t.toNat, h⟩) else .error (.reservedStep t)

/-- The code word of an instruction (R83, R87, R88); a command that takes no payload is sent with none. -/
def encode : Instr → Code
  | .md5Create => .cmd ⟨0x00#8, []⟩
  | .md5Append p => .cmd ⟨0x01#8, p⟩
  | .md5Finalize => .cmd ⟨0x02#8, []⟩
  | .md5Render => .cmd ⟨0x03#8, []⟩
  | .sha1Create => .cmd ⟨0x04#8, []⟩
  | .sha1Append p => .cmd ⟨0x05#8, p⟩
  | .sha1Finalize => .cmd ⟨0x06#8, []⟩
  | .sha1Render => .cmd ⟨0x07#8, []⟩
  | .md5Step0 => .md5Step 0#6
  | .md5Step1 => .md5Step 1#6
  | .md5Step2 => .md5Step 2#6
  | .md5Step3 => .md5Step 3#6
  | .md5Step4 => .md5Step 4#6
  | .md5Step5 => .md5Step 5#6
  | .md5Step6 => .md5Step 6#6
  | .md5Step7 => .md5Step 7#6
  | .md5Step8 => .md5Step 8#6
  | .md5Step9 => .md5Step 9#6
  | .md5Step10 => .md5Step 10#6
  | .md5Step11 => .md5Step 11#6
  | .md5Step12 => .md5Step 12#6
  | .md5Step13 => .md5Step 13#6
  | .md5Step14 => .md5Step 14#6
  | .md5Step15 => .md5Step 15#6
  | .md5Step16 => .md5Step 16#6
  | .md5Step17 => .md5Step 17#6
  | .md5Step18 => .md5Step 18#6
  | .md5Step19 => .md5Step 19#6
  | .md5Step20 => .md5Step 20#6
  | .md5Step21 => .md5Step 21#6
  | .md5Step22 => .md5Step 22#6
  | .md5Step23 => .md5Step 23#6
  | .md5Step24 => .md5Step 24#6
  | .md5Step25 => .md5Step 25#6
  | .md5Step26 => .md5Step 26#6
  | .md5Step27 => .md5Step 27#6
  | .md5Step28 => .md5Step 28#6
  | .md5Step29 => .md5Step 29#6
  | .md5Step30 => .md5Step 30#6
  | .md5Step31 => .md5Step 31#6
  | .md5Step32 => .md5Step 32#6
  | .md5Step33 => .md5Step 33#6
  | .md5Step34 => .md5Step 34#6
  | .md5Step35 => .md5Step 35#6
  | .md5Step36 => .md5Step 36#6
  | .md5Step37 => .md5Step 37#6
  | .md5Step38 => .md5Step 38#6
  | .md5Step39 => .md5Step 39#6
  | .md5Step40 => .md5Step 40#6
  | .md5Step41 => .md5Step 41#6
  | .md5Step42 => .md5Step 42#6
  | .md5Step43 => .md5Step 43#6
  | .md5Step44 => .md5Step 44#6
  | .md5Step45 => .md5Step 45#6
  | .md5Step46 => .md5Step 46#6
  | .md5Step47 => .md5Step 47#6
  | .md5Step48 => .md5Step 48#6
  | .md5Step49 => .md5Step 49#6
  | .md5Step50 => .md5Step 50#6
  | .md5Step51 => .md5Step 51#6
  | .md5Step52 => .md5Step 52#6
  | .md5Step53 => .md5Step 53#6
  | .md5Step54 => .md5Step 54#6
  | .md5Step55 => .md5Step 55#6
  | .md5Step56 => .md5Step 56#6
  | .md5Step57 => .md5Step 57#6
  | .md5Step58 => .md5Step 58#6
  | .md5Step59 => .md5Step 59#6
  | .md5Step60 => .md5Step 60#6
  | .md5Step61 => .md5Step 61#6
  | .md5Step62 => .md5Step 62#6
  | .md5Step63 => .md5Step 63#6
  | .sha1Step0 => .sha1Step 0#7
  | .sha1Step1 => .sha1Step 1#7
  | .sha1Step2 => .sha1Step 2#7
  | .sha1Step3 => .sha1Step 3#7
  | .sha1Step4 => .sha1Step 4#7
  | .sha1Step5 => .sha1Step 5#7
  | .sha1Step6 => .sha1Step 6#7
  | .sha1Step7 => .sha1Step 7#7
  | .sha1Step8 => .sha1Step 8#7
  | .sha1Step9 => .sha1Step 9#7
  | .sha1Step10 => .sha1Step 10#7
  | .sha1Step11 => .sha1Step 11#7
  | .sha1Step12 => .sha1Step 12#7
  | .sha1Step13 => .sha1Step 13#7
  | .sha1Step14 => .sha1Step 14#7
  | .sha1Step15 => .sha1Step 15#7
  | .sha1Step16 => .sha1Step 16#7
  | .sha1Step17 => .sha1Step 17#7
  | .sha1Step18 => .sha1Step 18#7
  | .sha1Step19 => .sha1Step 19#7
  | .sha1Step20 => .sha1Step 20#7
  | .sha1Step21 => .sha1Step 21#7
  | .sha1Step22 => .sha1Step 22#7
  | .sha1Step23 => .sha1Step 23#7
  | .sha1Step24 => .sha1Step 24#7
  | .sha1Step25 => .sha1Step 25#7
  | .sha1Step26 => .sha1Step 26#7
  | .sha1Step27 => .sha1Step 27#7
  | .sha1Step28 => .sha1Step 28#7
  | .sha1Step29 => .sha1Step 29#7
  | .sha1Step30 => .sha1Step 30#7
  | .sha1Step31 => .sha1Step 31#7
  | .sha1Step32 => .sha1Step 32#7
  | .sha1Step33 => .sha1Step 33#7
  | .sha1Step34 => .sha1Step 34#7
  | .sha1Step35 => .sha1Step 35#7
  | .sha1Step36 => .sha1Step 36#7
  | .sha1Step37 => .sha1Step 37#7
  | .sha1Step38 => .sha1Step 38#7
  | .sha1Step39 => .sha1Step 39#7
  | .sha1Step40 => .sha1Step 40#7
  | .sha1Step41 => .sha1Step 41#7
  | .sha1Step42 => .sha1Step 42#7
  | .sha1Step43 => .sha1Step 43#7
  | .sha1Step44 => .sha1Step 44#7
  | .sha1Step45 => .sha1Step 45#7
  | .sha1Step46 => .sha1Step 46#7
  | .sha1Step47 => .sha1Step 47#7
  | .sha1Step48 => .sha1Step 48#7
  | .sha1Step49 => .sha1Step 49#7
  | .sha1Step50 => .sha1Step 50#7
  | .sha1Step51 => .sha1Step 51#7
  | .sha1Step52 => .sha1Step 52#7
  | .sha1Step53 => .sha1Step 53#7
  | .sha1Step54 => .sha1Step 54#7
  | .sha1Step55 => .sha1Step 55#7
  | .sha1Step56 => .sha1Step 56#7
  | .sha1Step57 => .sha1Step 57#7
  | .sha1Step58 => .sha1Step 58#7
  | .sha1Step59 => .sha1Step 59#7
  | .sha1Step60 => .sha1Step 60#7
  | .sha1Step61 => .sha1Step 61#7
  | .sha1Step62 => .sha1Step 62#7
  | .sha1Step63 => .sha1Step 63#7
  | .sha1Step64 => .sha1Step 64#7
  | .sha1Step65 => .sha1Step 65#7
  | .sha1Step66 => .sha1Step 66#7
  | .sha1Step67 => .sha1Step 67#7
  | .sha1Step68 => .sha1Step 68#7
  | .sha1Step69 => .sha1Step 69#7
  | .sha1Step70 => .sha1Step 70#7
  | .sha1Step71 => .sha1Step 71#7
  | .sha1Step72 => .sha1Step 72#7
  | .sha1Step73 => .sha1Step 73#7
  | .sha1Step74 => .sha1Step 74#7
  | .sha1Step75 => .sha1Step 75#7
  | .sha1Step76 => .sha1Step 76#7
  | .sha1Step77 => .sha1Step 77#7
  | .sha1Step78 => .sha1Step 78#7
  | .sha1Step79 => .sha1Step 79#7

/-! ## The opcode table's numbering -/

/-- The code word that spec/opcode_table.json's number `w` of `nbits` bits stands for. The three formats overlap in
numbers (R83, R87, R88): 8 bits are a command, 7 a SHA-1 index, 6 an MD5 index. A number of 8 bits that is no legal
command is read as the row of a step index padded to whole bytes, an MD5 index below 64, a SHA-1 index below 80;
that reading serves queries about the table's rows only: the command port never reads a step index, and there the
same word is ILLEGAL_CMD (`decodeCmd`). DESIGN CHOICE: log 11. -/
def tableCode (nbits w : Nat) : Code :=
  if nbits ≤ 6 then .md5Step (BitVec.ofNat 6 w)
  else if nbits = 7 then .sha1Step (BitVec.ofNat 7 w)
  else if w < 8 then .cmd ⟨BitVec.ofNat 8 w, []⟩
  else if w < 64 then .md5Step (BitVec.ofNat 6 w)
  else if w < 80 then .sha1Step (BitVec.ofNat 7 w)
  else .cmd ⟨BitVec.ofNat 8 w, []⟩

/-- The instruction the decoder reads from the table's number `w` of `nbits` bits; APPEND's payload, which the table
gives no bits, is empty. -/
def decodeTableWord (nbits w : Nat) : Option Instr :=
  match decode (tableCode nbits w) with
  | .ok i => some i
  | .error _ => none

end Sys2Proof
end

