-- ==== Sys2Proof/Config.lean ====
section
/-! DEFINITION. What an implementation fixes and the values the spec leaves free. -/

namespace Sys2Proof

/-- FREE VALUES, one for each index: what `H` holds after a reset, which the spec leaves unspecified
(10_state.md R37, 93 U9). No body, so nothing can be proved of a value. DESIGN CHOICE, safe: log 3. -/
opaque Config.freeWord : Nat → Word

/-- FREE VALUES, one for each block index: what the SHA-1 register `temp` holds at the entry of a block,
before the first step writes it (10_state.md R31). DESIGN CHOICE, safe: log 9. -/
opaque Config.freeTemp : Nat → Word

/-- FREE VALUES, one for each message length of 2^61 bytes or more: its length field, which no machine can come to
compute (41_padding_sequencing.md R149, 93 U4). DESIGN CHOICE, safe: log 21. -/
opaque Config.freeLength : Nat → BitVec 64

/-- The value of the open parameter `BUF_CAP_BYTES` (00_scope.md R7, D13) at `State.reset`: the largest the
spec allows. The machine reads the parameter from `State.bufCap`, so that a statement over all states holds
for every value of it; `State.resetWith` gives the state after reset for each. DESIGN CHOICE, unsafe for a
claim about a run from `State.reset` alone: log 4. -/
def Config.bufCapBytes : Fin (2 ^ 61) := ⟨2 ^ 61 - 1, by decide⟩

end Sys2Proof
end

