-- ==== Sys2Proof/Machine/State.lean ====
section
/-! DEFINITION. The state of the two engines and of the host's command port, as plain data, and the state after
reset. -/

namespace Sys2Proof.Machine

/-- Four words named as the spec names MD5's working registers; also the digest state, `H[0]` to `H[3]` in this
order (10_state.md R21). -/
structure Md5Words where
  a : Word
  b : Word
  c : Word
  d : Word
deriving DecidableEq, Repr

/-- Five words named as the spec names SHA-1's working registers; also the digest state, `H[0]` to `H[4]` in this
order (10_state.md R22). -/
structure Sha1Words where
  a : Word
  b : Word
  c : Word
  d : Word
  e : Word
deriving DecidableEq, Repr

/-- The lifecycle tag (10_state.md R28); the reserved code 3 is no value of it (93 U8). -/
inductive Phase where
  | idle
  | active
  | done
deriving DecidableEq, Repr

/-- The cause of the recorded fault (60_exceptions.md R251); the reserved code 7 is no value of it (93 U8). -/
inductive Cause where
  | none
  | illegalCmd
  | noInstance
  | reuse
  | noDigest
  | capacity
  | invariant
deriving DecidableEq, Repr

/-- What exists inside one MD5.FINALIZE only (10_state.md R31 to R35). -/
structure Md5Run where
  /-- `PMSG`, the padded message (R35) -/
  pmsg : List Byte
  /-- `blk`, the index of the block being compressed (R33) -/
  blk : Nat
  /-- `step`, the step index, 0 to 63 (R33) -/
  step : Fin 64
  /-- `X[0..15]`, the words of the current block (R32) -/
  x : Vector Word 16
  /-- the working registers `A, B, C, D` (R31) -/
  work : Md5Words
deriving DecidableEq, Repr

/-- What exists inside one SHA1.FINALIZE only (10_state.md R31 to R35). -/
structure Sha1Run where
  /-- `PMSG`, the padded message (R35) -/
  pmsg : List Byte
  /-- `blk`, the index of the block being compressed (R33) -/
  blk : Nat
  /-- `step`, the step index, 0 to 79; the codes 80 to 127 never occur (R33, 93 U13) -/
  step : Fin 80
  /-- `W[0..79]`, the schedule of the current block (R32) -/
  w : Vector Word 80
  /-- the working registers `A, B, C, D, E` (R31) -/
  work : Sha1Words
  /-- the working register `temp` (R31) -/
  temp : Word
deriving DecidableEq, Repr

/-- One engine: the tuple of 10_state.md R20 and, while a FINALIZE is open, its working state (R31 to R35). `H` is
the type of its digest state, `R` of its working state. -/
structure Engine (H R : Type) where
  /-- `H`, the digest state (R21, R22) -/
  h : H
  /-- `BUF`, the message buffer: byte `i` of the list is byte `i` of the buffer (R26) -/
  buf : List Byte
  /-- `PHASE` (R28) -/
  phase : Phase
  /-- `FAULT`, sticky (R29) -/
  fault : Bool
  /-- `CAUSE`, the first recorded cause (R29) -/
  cause : Cause
  /-- the working state of an open FINALIZE; `none` outside one, where the spec gives it no existence (R37) -/
  run : Option R
deriving DecidableEq, Repr

/-- The MD5 engine. -/
abbrev Md5Engine := Engine Md5Words Md5Run

/-- The SHA-1 engine. -/
abbrev Sha1Engine := Engine Sha1Words Sha1Run

/-- What the host sends: a command (30_encoding.md R80), or a reset, which is outside the command set
(70_reset_and_hazards.md R280). -/
inductive HostEvent where
  | command (c : Cmd)
  | reset
deriving DecidableEq, Repr

/-- A response (30_encoding.md R86). -/
structure Resp where
  status : Byte
  ok : Bool
  data : List Byte
deriving DecidableEq, Repr

/-- The whole machine. -/
structure State where
  /-- the MD5 engine -/
  md5 : Md5Engine
  /-- the SHA-1 engine -/
  sha1 : Sha1Engine
  /-- `BUF_CAP_BYTES`, 0 to 2^61 - 1: the open parameter, configuration that nothing writes (00_scope.md R7); log 4 -/
  bufCap : Fin (2 ^ 61)
  /-- what the host has sent and the machine has not yet taken, next first (20_memory.md R61); log 1 -/
  inbox : List HostEvent
  /-- the responses given, oldest first (30_encoding.md R86); log 1 -/
  outbox : List Resp
  /-- the model's own: the index of the next free value (`Config.freeWord`); log 3 -/
  freeCount : Nat
deriving DecidableEq, Repr

/-- Where the machine stops. The spec's own faults are no stops: they are recorded in `FAULT` and `CAUSE`
(60_exceptions.md R250), and the machine goes on. -/
inductive Fault where
  /-- Raised by a step micro-operation (`md5Step0` to `sha1Step79`) given to an engine that has no FINALIZE open: its
  working registers do not exist there (10_state.md R37, 93 U10). Safe; `step` never reaches it. Log 6. -/
  | stepOutsideFinalize
deriving DecidableEq, Repr

/-- Why there is no meaning. -/
inductive Refusal where
  /-- An instruction with no meaning yet, by its mnemonic. Raised by no arm of this model. Safe. -/
  | notModelled (mnemonic : String)
deriving DecidableEq, Repr

/-- Unspecified contents of `MD5.H` after a reset: the free values from index `n` on (10_state.md R37); log 3. -/
def unsetMd5H (n : Nat) : Md5Words :=
  ⟨Config.freeWord n, Config.freeWord (n + 1), Config.freeWord (n + 2), Config.freeWord (n + 3)⟩

/-- Unspecified contents of `SHA1.H` after a reset: the free values from index `n` on (10_state.md R37); log 3. -/
def unsetSha1H (n : Nat) : Sha1Words :=
  ⟨Config.freeWord n, Config.freeWord (n + 1), Config.freeWord (n + 2), Config.freeWord (n + 3),
    Config.freeWord (n + 4)⟩

/-- An engine after reset: IDLE, no fault, empty buffer, no FINALIZE open, `H` as given (10_state.md R37). -/
def Engine.afterReset {H R : Type} (h : H) : Engine H R :=
  { h := h, buf := [], phase := .idle, fault := false, cause := .none, run := none }

/-- The machine right after reset with the parameter `BUF_CAP_BYTES` given (10_state.md R37); the host has sent
nothing and got nothing. -/
def State.resetWith (cap : Fin (2 ^ 61)) : State :=
  { md5 := Engine.afterReset (unsetMd5H 0), sha1 := Engine.afterReset (unsetSha1H 4), bufCap := cap,
    inbox := [], outbox := [], freeCount := 9 }

/-- The machine right after reset, the parameter at `Config.bufCapBytes` (log 4). -/
def State.reset : State := State.resetWith Config.bufCapBytes

end Sys2Proof.Machine
end

