-- ==== Sys2Proof/Machine/Flags.lean ====
section
/-! DEFINITION. The hardware has no condition flags (10_state.md R39); its flag-like state is PHASE, FAULT and CAUSE,
which the status word shows. -/

namespace Sys2Proof.Machine

/-- The code of a phase (10_state.md R28). -/
def phaseCode : Phase → BitVec 2
  | .idle => 0#2
  | .active => 1#2
  | .done => 2#2

/-- The code of a cause (60_exceptions.md R251). -/
def causeCode : Cause → BitVec 3
  | .none => 0#3
  | .illegalCmd => 1#3
  | .noInstance => 2#3
  | .reuse => 3#3
  | .noDigest => 4#3
  | .capacity => 5#3
  | .invariant => 6#3

/-- `FAULT` as one bit. -/
def faultCode (fault : Bool) : BitVec 1 := if fault then 1#1 else 0#1

/-- `E.STATUS`: PHASE in bits 1 to 0, FAULT in bit 2, CAUSE in bits 5 to 3, bits 7 to 6 zero (10_state.md R30). -/
def Engine.status {H R : Type} (e : Engine H R) : Byte :=
  (phaseCode e.phase).setWidth 8 ||| ((faultCode e.fault).setWidth 8 <<< 2) ||| ((causeCode e.cause).setWidth 8 <<< 3)

end Sys2Proof.Machine
end

