-- ==== Sys2Proof/Machine/Operands.lean ====
section
/-! DEFINITION. The word operations and byte-order helpers of 00_scope.md that the datapaths, the padder and the
output stage use, and the reads of the byte sequences. -/

namespace Sys2Proof.Machine

/-- Left rotation by `n`, 0 to 31 (00_scope.md R13). -/
def rotl (x : Word) (n : Nat) : Word := (x <<< n) ||| (x >>> (32 - n))

/-- The word of four bytes, the byte at the lowest index least significant (00_scope.md R14). -/
def le32 (b0 b1 b2 b3 : Byte) : Word := b3 ++ b2 ++ b1 ++ b0

/-- The word of four bytes, the byte at the lowest index most significant (00_scope.md R14). -/
def be32 (b0 b1 b2 b3 : Byte) : Word := b0 ++ b1 ++ b2 ++ b3

/-- Byte `m` of a word, byte 0 the least significant: `w[8m+7 : 8m]`. -/
def wordByte (w : Word) (m : Nat) : Byte := w.extractLsb' (8 * m) 8

/-- `le32_bytes` (00_scope.md R14). -/
def le32Bytes (w : Word) : List Byte := [wordByte w 0, wordByte w 1, wordByte w 2, wordByte w 3]

/-- `be32_bytes` (00_scope.md R14). -/
def be32Bytes (w : Word) : List Byte := [wordByte w 3, wordByte w 2, wordByte w 1, wordByte w 0]

/-- Byte `m` of a 64-bit value, byte 0 the least significant. -/
def dwordByte (v : BitVec 64) (m : Nat) : Byte := v.extractLsb' (8 * m) 8

/-- `le64_bytes` (00_scope.md R14). -/
def le64Bytes (v : BitVec 64) : List Byte := (List.range 8).map (dwordByte v)

/-- `be64_bytes` (00_scope.md R14). -/
def be64Bytes (v : BitVec 64) : List Byte := (List.range 8).map fun m => dwordByte v (7 - m)

/-- `bswap32`: the four bytes in reverse order (00_scope.md R14). -/
def bswap32 (w : Word) : Word := be32 (wordByte w 0) (wordByte w 1) (wordByte w 2) (wordByte w 3)

/-- Byte `i` of a buffer; no value outside it (20_memory.md R50). -/
def bufRead (buf : List Byte) (i : Nat) : Option Byte := buf[i]?

/-- The one store: the payload goes in at `len(BUF)` (20_memory.md R66). -/
def bufAppend (buf payload : List Byte) : List Byte := buf ++ payload

/-- The buffer holds at most `cap` bytes (10_state.md R26). -/
abbrev bufWf (cap : Nat) (buf : List Byte) : Prop := buf.length ≤ cap

/-- `MemRead(addr, n)`: the `n` bytes of `PMSG` from `addr` on (00_scope.md R15). -/
def memRead (pmsg : List Byte) (addr n : Nat) : List Byte := (pmsg.drop addr).take n

/-- Byte `i` of a 64-byte block. -/
def blockByte (block : List Byte) (i : Nat) : Byte := block.getD i 0

end Sys2Proof.Machine
end

