-- ==== Sys2Proof/Machine/Roms.lean ====
section
/-! DEFINITION. The constant ROMs (10_state.md R34): the MD5 step ROM of 42_md5_compress.md R171 to R173, R178, the
SHA-1 constants of 43_sha1_compress.md R207. The spec supplies the MD5 rotation amounts, the word order and the unit
of the sine from general knowledge (93 G1, G2, G4). PRESUMED: log 12, log 13. -/

namespace Sys2Proof.Machine

/-- `ROM_T[1..16]` (R178). -/
def romTRound0 : List Word :=
  [0xd76aa478#32, 0xe8c7b756#32, 0x242070db#32, 0xc1bdceee#32,
   0xf57c0faf#32, 0x4787c62a#32, 0xa8304613#32, 0xfd469501#32,
   0x698098d8#32, 0x8b44f7af#32, 0xffff5bb1#32, 0x895cd7be#32,
   0x6b901122#32, 0xfd987193#32, 0xa679438e#32, 0x49b40821#32]

/-- `ROM_T[17..32]` (R178). -/
def romTRound1 : List Word :=
  [0xf61e2562#32, 0xc040b340#32, 0x265e5a51#32, 0xe9b6c7aa#32,
   0xd62f105d#32, 0x02441453#32, 0xd8a1e681#32, 0xe7d3fbc8#32,
   0x21e1cde6#32, 0xc33707d6#32, 0xf4d50d87#32, 0x455a14ed#32,
   0xa9e3e905#32, 0xfcefa3f8#32, 0x676f02d9#32, 0x8d2a4c8a#32]

/-- `ROM_T[33..48]` (R178). -/
def romTRound2 : List Word :=
  [0xfffa3942#32, 0x8771f681#32, 0x6d9d6122#32, 0xfde5380c#32,
   0xa4beea44#32, 0x4bdecfa9#32, 0xf6bb4b60#32, 0xbebfbc70#32,
   0x289b7ec6#32, 0xeaa127fa#32, 0xd4ef3085#32, 0x04881d05#32,
   0xd9d4d039#32, 0xe6db99e5#32, 0x1fa27cf8#32, 0xc4ac5665#32]

/-- `ROM_T[49..64]` (R178). -/
def romTRound3 : List Word :=
  [0xf4292244#32, 0x432aff97#32, 0xab9423a7#32, 0xfc93a039#32,
   0x655b59c3#32, 0x8f0ccc92#32, 0xffeff47d#32, 0x85845dd1#32,
   0x6fa87e4f#32, 0xfe2ce6e0#32, 0xa3014314#32, 0x4e0811a1#32,
   0xf7537e82#32, 0xbd3af235#32, 0x2ad7d2bb#32, 0xeb86d391#32]

/-- `ROM_T`, entry `ROM_T[i + 1]` at position `i` (R178). -/
def romTTable : List Word := romTRound0 ++ romTRound1 ++ romTRound2 ++ romTRound3

/-- The round constant of MD5 step `i`, `ROM_T[i + 1]` (30_encoding.md R87). -/
def romT (i : Fin 64) : Word := romTTable.get (i.cast rfl)

/-- `SROW`: the four rotation amounts of each round (R172). -/
def srow : List (List Nat) := [[7, 12, 17, 22], [5, 9, 14, 20], [4, 11, 16, 23], [6, 10, 15, 21]]

/-- `ROM_S[i] = SROW[i div 16][i mod 4]` (R172). -/
def romS (i : Fin 64) : Nat := (srow.getD (i.val / 16) []).getD (i.val % 4) 0

/-- `ROM_G[i]`, by the formula of the round (R173). -/
def romG (i : Fin 64) : Fin 16 :=
  if i.val < 16 then Fin.ofNat 16 i.val
  else if i.val < 32 then Fin.ofNat 16 (5 * i.val + 1)
  else if i.val < 48 then Fin.ofNat 16 (3 * i.val + 5)
  else Fin.ofNat 16 (7 * i.val)

/-- The round of an MD5 step, bits 5 to 4 of the step index (30_encoding.md R87). -/
def md5Round (i : Fin 64) : Nat := i.val / 16

/-- The stage of a SHA-1 step, `t div 20` (30_encoding.md R88). -/
def sha1Stage (t : Fin 80) : Nat := t.val / 20

/-- `ROM_K[t div 20]`, the constant of SHA-1 step `t` (43_sha1_compress.md R207). -/
def romK (t : Fin 80) : Word :=
  match sha1Stage t with
  | 0 => 0x5a827999#32
  | 1 => 0x6ed9eba1#32
  | 2 => 0x8f1bbcdc#32
  | _ => 0xca62c1d6#32

end Sys2Proof.Machine
end

