-- ==== Sys2Proof/Machine/Md5Datapath.lean ====
section
/-! DEFINITION. The MD5 compression engine (42_md5_compress.md). -/

namespace Sys2Proof.Machine

/-- `MD5_IV` (10_state.md R23). -/
def md5Iv : Md5Words := ⟨0x67452301#32, 0xefcdab89#32, 0x98badcfe#32, 0x10325476#32⟩

/-- `MD5_LOAD`: sixteen little-endian words (R160, 20_memory.md R52). -/
def md5Load (block : List Byte) : Vector Word 16 :=
  ⟨((List.finRange 16).map fun k : Fin 16 =>
      le32 (blockByte block (4 * k)) (blockByte block (4 * k + 1)) (blockByte block (4 * k + 2))
        (blockByte block (4 * k + 3))).toArray, by simp⟩

/-- Round 1 function (R162). -/
def md5F (b c d : Word) : Word := (b &&& c) ||| (~~~b &&& d)

/-- Round 2 function (R163). -/
def md5G (b c d : Word) : Word := (b &&& d) ||| (c &&& ~~~d)

/-- Round 3 function, `Hf` (R164). -/
def md5Hf (b c d : Word) : Word := b ^^^ c ^^^ d

/-- Round 4 function (R165). -/
def md5I (b c d : Word) : Word := c ^^^ (b ||| ~~~d)

/-- The function of the step's round (R166 to R170). -/
def md5Func (i : Fin 64) (b c d : Word) : Word :=
  match md5Round i with
  | 0 => md5F b c d
  | 1 => md5G b c d
  | 2 => md5Hf b c d
  | _ => md5I b c d

/-- `MD5_STEP(i)` on the working registers (R166), with the role rotation of R174 (PRESUMED: log 12). -/
def md5Step (x : Vector Word 16) (w : Md5Words) (i : Fin 64) : Md5Words :=
  let temp := w.a + md5Func i w.b w.c w.d + x.get (romG i) + romT i
  { a := w.d, b := w.b + rotl temp (romS i), c := w.b, d := w.c }

/-- `MD5_FEED`: word by word, modulo 2^32 (R175). -/
def md5Feed (h w : Md5Words) : Md5Words := ⟨h.a + w.a, h.b + w.b, h.c + w.c, h.d + w.d⟩

/-- `MD5_COMPRESS(H, block)`: load, the 64 steps in ascending order from `H`, feed-forward (R176, R161). -/
def md5Compress (h : Md5Words) (block : List Byte) : Md5Words :=
  md5Feed h ((List.finRange 64).foldl (md5Step (md5Load block)) h)

end Sys2Proof.Machine
end

