-- ==== Sys2Proof/Machine/Output.lean ====
section
/-! DEFINITION. The output stage: digest bytes and hexadecimal strings (44_output_render.md). The two engines render
differently on purpose. -/

namespace Sys2Proof.Machine

/-- `MD5_DIGEST_BYTES` (R230). -/
def md5DigestBytes (h : Md5Words) : List Byte :=
  le32Bytes h.a ++ le32Bytes h.b ++ le32Bytes h.c ++ le32Bytes h.d

/-- `SHA1_DIGEST_BYTES` (R231). -/
def sha1DigestBytes (h : Sha1Words) : List Byte :=
  be32Bytes h.a ++ be32Bytes h.b ++ be32Bytes h.c ++ be32Bytes h.d ++ be32Bytes h.e

/-- `HEXDIGIT(v)` as its ASCII code (R234; ASCII is PRESUMED: log 14). -/
def hexDigit (v : BitVec 4) : Byte :=
  if v.toNat ≤ 9 then BitVec.ofNat 8 (0x30 + v.toNat) else BitVec.ofNat 8 (0x61 + (v.toNat - 10))

/-- Digit `j` of a word, digit 0 the least significant: `w[4j+3 : 4j]`. -/
def wordNibble (w : Word) (j : Nat) : BitVec 4 := w.extractLsb' (4 * j) 4

/-- `hex8(w)`: eight digits, most significant first, leading zeros kept (R234). -/
def hex8 (w : Word) : List Byte := (List.range 8).map fun k => hexDigit (wordNibble w (7 - k))

/-- `MD5_HEX`: each word byte-swapped before it is printed (R232). -/
def md5Hex (h : Md5Words) : List Byte :=
  hex8 (bswap32 h.a) ++ hex8 (bswap32 h.b) ++ hex8 (bswap32 h.c) ++ hex8 (bswap32 h.d)

/-- `SHA1_HEX`: each word printed as it is (R233). -/
def sha1Hex (h : Sha1Words) : List Byte := hex8 h.a ++ hex8 h.b ++ hex8 h.c ++ hex8 h.d ++ hex8 h.e

end Sys2Proof.Machine
end

