-- ==== Sys2Proof/Machine/Padding.lean ====
section
/-! DEFINITION. The padder and the block sequencer's cut into blocks (41_padding_sequencing.md). -/

namespace Sys2Proof.Machine

/-- The byte order of the length field: little-endian for MD5, big-endian for SHA-1 (R140 to R142). -/
inductive ByteOrder where
  | le
  | be
deriving DecidableEq, Repr

/-- `L`, the bit length of a message of `n` bytes, as an unsigned 64-bit value (R140, R149). From 2^61 bytes on, which the
bound on the capacity excludes, the spec allows neither wrap nor saturation (93 U4): a free value, log 21. -/
def bitLength (n : Nat) : BitVec 64 := if n < 2 ^ 61 then BitVec.ofNat 64 (8 * n) else Config.freeLength n

/-- `z = (55 - n) mod 64`, how many zero bytes the padder's loop appends after the marker (R140, R143). -/
def zeroCount (n : Nat) : Nat := (55 + 64 - n % 64) % 64

/-- The 8 bytes of the length field (20_memory.md R54). -/
def lengthField (order : ByteOrder) (n : Nat) : List Byte :=
  match order with
  | .le => le64Bytes (bitLength n)
  | .be => be64Bytes (bitLength n)

/-- `PAD(msg, order)`: the message, the marker byte, the zeros, the length field (R140). -/
def pad (order : ByteOrder) (msg : List Byte) : List Byte :=
  msg ++ 0x80#8 :: (List.replicate (zeroCount msg.length) 0x00#8 ++ lengthField order msg.length)

/-- `NBLK = len(PMSG) / 64` (R147). -/
def nblk (pmsg : List Byte) : Nat := pmsg.length / 64

/-- Block `blk`: `MemRead(64*blk, 64)` (R145). -/
def blockAt (pmsg : List Byte) (blk : Nat) : List Byte := memRead pmsg (64 * blk) 64

/-- The blocks of a padded message in ascending order (R145, R146). -/
def blocksOf (pmsg : List Byte) : List (List Byte) := (List.range (nblk pmsg)).map (blockAt pmsg)

/-- The block loop of FINALIZE (R146): the compression function once for each block, in order, each from the state the
one before it left; no result when a block is not 64 bytes, the invariant check of 40_commands.md R114 and R115. -/
def compressAll {H : Type} (compress : H → List Byte → H) (h : H) : List (List Byte) → Option H
  | [] => some h
  | block :: rest => if block.length = 64 then compressAll compress (compress h block) rest else none

end Sys2Proof.Machine
end

