-- ==== Sys2Proof/Machine/Sha1Datapath.lean ====
section
/-! DEFINITION. The SHA-1 compression engine (43_sha1_compress.md). -/

namespace Sys2Proof.Machine

/-- `SHA1_IV` (10_state.md R24). -/
def sha1Iv : Sha1Words := ⟨0x67452301#32, 0xefcdab89#32, 0x98badcfe#32, 0x10325476#32, 0xc3d2e1f0#32⟩

/-- `SHA1_LOAD`: sixteen big-endian words, `W[0..15]` (R200, 20_memory.md R53). -/
def sha1Load (block : List Byte) : List Word :=
  (List.finRange 16).map fun k : Fin 16 =>
    be32 (blockByte block (4 * k)) (blockByte block (4 * k + 1)) (blockByte block (4 * k + 2))
      (blockByte block (4 * k + 3))

/-- One more schedule word: `W[i] = rotl(W[i-3] ^ W[i-8] ^ W[i-14] ^ W[i-16], 1)`, `i` the number of words so far
(R201). -/
def sha1ExpandOne (w : List Word) : List Word :=
  let i := w.length
  w ++ [rotl (w.getD (i - 3) 0 ^^^ w.getD (i - 8) 0 ^^^ w.getD (i - 14) 0 ^^^ w.getD (i - 16) 0) 1]

/-- `n` more schedule words, in ascending order (R201). -/
def sha1Expand : Nat → List Word → List Word
  | 0, w => w
  | n + 1, w => sha1Expand n (sha1ExpandOne w)

theorem sha1Expand_length (n : Nat) (w : List Word) : (sha1Expand n w).length = w.length + n := by
  induction n generalizing w with
  | zero => rfl
  | succ n ih => simp [sha1Expand, ih, sha1ExpandOne]; omega

/-- `SHA1_LOAD` and `SHA1_EXPAND`: the schedule `W[0..79]` of a block (R200, R201). -/
def sha1Schedule (block : List Byte) : Vector Word 80 :=
  ⟨(sha1Expand 64 (sha1Load block)).toArray, by simp [sha1Expand_length, sha1Load]⟩

/-- Stage 0 function (R203). -/
def sha1Ch (b c d : Word) : Word := (b &&& c) ||| (~~~b &&& d)

/-- Stage 1 and stage 3 function (R204, R206). -/
def sha1Parity (b c d : Word) : Word := b ^^^ c ^^^ d

/-- Stage 2 function (R205). -/
def sha1Maj (b c d : Word) : Word := (b &&& c) ||| (b &&& d) ||| (c &&& d)

/-- The function of the step's stage (R203 to R206). -/
def sha1Func (t : Fin 80) (b c d : Word) : Word :=
  match sha1Stage t with
  | 0 => sha1Ch b c d
  | 1 => sha1Parity b c d
  | 2 => sha1Maj b c d
  | _ => sha1Parity b c d

/-- The `temp` of step `t` (R208). -/
def sha1Temp (w : Vector Word 80) (r : Sha1Words) (t : Fin 80) : Word :=
  rotl r.a 5 + sha1Func t r.b r.c r.d + r.e + romK t + w.get t

/-- The shift of the working registers that takes `temp` in (R208). -/
def sha1Shift (r : Sha1Words) (temp : Word) : Sha1Words :=
  { a := temp, b := r.a, c := rotl r.b 30, d := r.c, e := r.d }

/-- `SHA1_STEP(t)` on the working registers (R208). -/
def sha1Step (w : Vector Word 80) (r : Sha1Words) (t : Fin 80) : Sha1Words := sha1Shift r (sha1Temp w r t)

/-- `SHA1_FEED`: word by word, modulo 2^32 (R209). -/
def sha1Feed (h r : Sha1Words) : Sha1Words := ⟨h.a + r.a, h.b + r.b, h.c + r.c, h.d + r.d, h.e + r.e⟩

/-- `SHA1_COMPRESS(H, block)`: load, expansion, the 80 steps in ascending order from `H`, feed-forward (R210, R202). -/
def sha1Compress (h : Sha1Words) (block : List Byte) : Sha1Words :=
  sha1Feed h ((List.finRange 80).foldl (sha1Step (sha1Schedule block)) h)

end Sys2Proof.Machine
end

