-- ==== Sys2Proof/Machine/Ops.lean ====
section
/-! DEFINITION. The named operations of the machine: what a command does to its engine, raising a fault (the one
exception operation of this hardware), the sequencers inside FINALIZE, reset, and the host's port. -/

namespace Sys2Proof.Machine

/-- The outcome of a step of this machine. -/
abbrev Outcome := Host.Outcome State Fault Refusal

/-! ## What an engine answers a command with -/

/-- An engine after a command, with the `ok` and `data` of the response (30_encoding.md R86). -/
structure Answer (E : Type) where
  engine : E
  ok : Bool
  data : List Byte
deriving DecidableEq, Repr

section
variable {H R : Type}

/-- `raise Fault(cause)`: FAULT and CAUSE are recorded, nothing else changes, the response is `ok = 0` with no data
(60_exceptions.md R250). There is no return from a fault but reset (R259). -/
def Engine.raiseFault (e : Engine H R) (cause : Cause) : Answer (Engine H R) :=
  ⟨{ e with fault := true, cause := cause }, false, []⟩

/-- A command to a faulted engine: no state changes, `ok = 0` with no data (60_exceptions.md R259). -/
def Engine.refuse (e : Engine H R) : Answer (Engine H R) := ⟨e, false, []⟩

/-- The phase check of the prologue: the cause with which an operation faults in a phase, `none` where it is legal
(40_commands.md R118). -/
def phaseFault (op : Op) (p : Phase) : Option Cause :=
  match op, p with
  | .create, _ => none
  | .append, .idle => some .noInstance
  | .append, .active => none
  | .append, .done => some .reuse
  | .finalize, .idle => some .noInstance
  | .finalize, .active => none
  | .finalize, .done => some .reuse
  | .render, .idle => some .noInstance
  | .render, .active => some .noDigest
  | .render, .done => none

/-- The prologue of a legal command word around the command's body: the recorded fault first, then the phase
(40_commands.md R118, 60_exceptions.md R258). -/
def Engine.command (op : Op) (body : Engine H R → Answer (Engine H R)) (e : Engine H R) : Answer (Engine H R) :=
  if e.fault then e.refuse
  else
    match phaseFault op e.phase with
    | some cause => e.raiseFault cause
    | none => body e

/-- The prologue's answer to a command word with nonzero reserved bits, whatever the phase (40_commands.md R118,
60_exceptions.md R252). -/
def Engine.illegal (e : Engine H R) : Answer (Engine H R) :=
  if e.fault then e.refuse else e.raiseFault .illegalCmd

/-- The body of CREATE: `H` to the initial value, the buffer empty, phase ACTIVE (40_commands.md R110, R111). Working
state of a FINALIZE cannot be there (log 17); it does not outlive the instance. -/
def Engine.createBody (iv : H) (e : Engine H R) : Answer (Engine H R) :=
  ⟨{ e with h := iv, buf := [], phase := .active, run := none }, true, []⟩

/-- The body of APPEND: CAPACITY when the payload does not fit, else the bytes at the end of the buffer
(40_commands.md R112, R113, 60_exceptions.md R256, 20_memory.md R66). -/
def Engine.appendBody (cap : Nat) (payload : List Byte) (e : Engine H R) : Answer (Engine H R) :=
  if e.buf.length + payload.length > cap then e.raiseFault .capacity
  else ⟨{ e with buf := bufAppend e.buf payload }, true, []⟩

/-- The end of FINALIZE: the digest state is frozen, the buffer consumed, phase DONE, the digest bytes are the data
(40_commands.md R114, R115). -/
def Engine.finish (h : H) (digest : List Byte) (e : Engine H R) : Answer (Engine H R) :=
  ⟨{ e with h := h, buf := [], phase := .done, run := none }, true, digest⟩

/-- The body of FINALIZE: pad, compress every block in order from `H`, end; INVARIANT if a block were not 64 bytes,
which cannot be (40_commands.md R114, R115, 60_exceptions.md R257). -/
def Engine.finalizeBody (order : ByteOrder) (compress : H → List Byte → H) (digestBytes : H → List Byte)
    (e : Engine H R) : Answer (Engine H R) :=
  match compressAll compress e.h (blocksOf (pad order e.buf)) with
  | some h => e.finish h (digestBytes h)
  | none => e.raiseFault .invariant

/-- The body of RENDER: no state changes, the hex string is the data (40_commands.md R116, R117). -/
def Engine.renderBody (hex : H → List Byte) (e : Engine H R) : Answer (Engine H R) := ⟨e, true, hex e.h⟩

/-- The response to an answered command: the status is the engine's after the command (30_encoding.md R86). -/
def Answer.resp (a : Answer (Engine H R)) : Resp := ⟨a.engine.status, a.ok, a.data⟩

end

/-! ## The two engines in the machine -/

/-- The MD5 engine takes its answer's state, and the response goes to the host. -/
def State.answerMd5 (s : State) (a : Answer Md5Engine) : State :=
  { s with md5 := a.engine, outbox := s.outbox ++ [a.resp] }

/-- The SHA-1 engine takes its answer's state, and the response goes to the host. -/
def State.answerSha1 (s : State) (a : Answer Sha1Engine) : State :=
  { s with sha1 := a.engine, outbox := s.outbox ++ [a.resp] }

/-- The working state of the MD5 engine is replaced. -/
def State.setMd5Run (s : State) (r : Option Md5Run) : State := { s with md5 := { s.md5 with run := r } }

/-- The working state of the SHA-1 engine is replaced. -/
def State.setSha1Run (s : State) (r : Option Sha1Run) : State := { s with sha1 := { s.sha1 with run := r } }

/-- An illegal command word faults the engine of its bit 2 (30_encoding.md R84, 60_exceptions.md R252). -/
def State.illegalCommand (s : State) (word : Byte) : State :=
  match algOfWord word with
  | .md5 => s.answerMd5 s.md5.illegal
  | .sha1 => s.answerSha1 s.sha1.illegal

/-! ## The sequencers inside FINALIZE (10_state.md R33) -/

/-- MD5 at the entry of block `blk`: `X` loaded, `A` to `D` from `H`, step 0 (42_md5_compress.md R160, R161). -/
def md5EnterBlock (h : Md5Words) (pmsg : List Byte) (blk : Nat) : Md5Run :=
  { pmsg := pmsg, blk := blk, step := 0, x := md5Load (blockAt pmsg blk), work := h }

/-- SHA-1 at the entry of block `blk`: `W` loaded and expanded, `A` to `E` from `H`, step 0 (43_sha1_compress.md R200
to R202); `temp` is not yet written (log 9). -/
def sha1EnterBlock (h : Sha1Words) (pmsg : List Byte) (blk : Nat) : Sha1Run :=
  { pmsg := pmsg, blk := blk, step := 0, w := sha1Schedule (blockAt pmsg blk), work := h,
    temp := Config.freeTemp blk }

/-- The machine just inside MD5.FINALIZE, before step 0 of block 0: the message padded (40_commands.md R114). The
command itself is one transition (R119); this is the state its micro-operations start from (log 5). -/
def State.openMd5 (s : State) : State := s.setMd5Run (some (md5EnterBlock s.md5.h (pad .le s.md5.buf) 0))

/-- The machine just inside SHA1.FINALIZE, before step 0 of block 0 (40_commands.md R115; log 5). -/
def State.openSha1 (s : State) : State := s.setSha1Run (some (sha1EnterBlock s.sha1.h (pad .be s.sha1.buf) 0))

/-- Leaving step 63: feed-forward, then the next block or the end of FINALIZE (10_state.md R33, 42_md5_compress.md
R175). -/
def State.leaveMd5Block (s : State) (r : Md5Run) : State :=
  let h := md5Feed s.md5.h r.work
  if r.blk + 1 < nblk r.pmsg then
    { s with md5 := { s.md5 with h := h, run := some (md5EnterBlock h r.pmsg (r.blk + 1)) } }
  else s.answerMd5 (s.md5.finish h (md5DigestBytes h))

/-- Leaving step 79: feed-forward, then the next block or the end of FINALIZE (10_state.md R33, 43_sha1_compress.md
R209). -/
def State.leaveSha1Block (s : State) (r : Sha1Run) : State :=
  let h := sha1Feed s.sha1.h r.work
  if r.blk + 1 < nblk r.pmsg then
    { s with sha1 := { s.sha1 with h := h, run := some (sha1EnterBlock h r.pmsg (r.blk + 1)) } }
  else s.answerSha1 (s.sha1.finish h (sha1DigestBytes h))

/-- The micro-operation of MD5 step `i` on an open FINALIZE: the step, then `step` advances by 1, or the block is left
(42_md5_compress.md R166, 10_state.md R33). With none open there are no working registers (log 6). -/
def md5StepOp (i : Fin 64) (s : State) : Outcome :=
  match s.md5.run with
  | none => .fault .stepOutsideFinalize
  | some r =>
    let r' := { r with work := md5Step r.x r.work i }
    if h : i.val + 1 < 64 then .next (s.setMd5Run (some { r' with step := ⟨i.val + 1, h⟩ }))
    else .next (s.leaveMd5Block r')

/-- The micro-operation of SHA-1 step `t` on an open FINALIZE (43_sha1_compress.md R208, 10_state.md R33). With none
open there are no working registers (log 6). -/
def sha1StepOp (t : Fin 80) (s : State) : Outcome :=
  match s.sha1.run with
  | none => .fault .stepOutsideFinalize
  | some r =>
    let temp := sha1Temp r.w r.work t
    let r' := { r with work := sha1Shift r.work temp, temp := temp }
    if h : t.val + 1 < 80 then .next (s.setSha1Run (some { r' with step := ⟨t.val + 1, h⟩ }))
    else .next (s.leaveSha1Block r')

/-! ## Reset (70_reset_and_hazards.md R280) -/

/-- Reset acts on both engines at once; `H` gets unspecified contents, the next free values (10_state.md R37, log 3).
The parameter, the host's stream and the responses already given are not the engines' state. -/
def State.applyReset (s : State) : State :=
  { s with
    md5 := Engine.afterReset (unsetMd5H s.freeCount),
    sha1 := Engine.afterReset (unsetSha1H (s.freeCount + 4)),
    freeCount := s.freeCount + 9 }

/-! ## What the machine does next -/

/-- What is taken next. -/
inductive Fetched where
  /-- nothing is pending -/
  | idle
  /-- a reset -/
  | reset
  /-- a command or, inside a FINALIZE, a micro-operation -/
  | instr (i : Instr)
  /-- a command word that is no instruction -/
  | illegal (word : Byte)
deriving DecidableEq, Repr

/-- What the host sent next. -/
def fetchEvent : HostEvent → Fetched
  | .reset => .reset
  | .command c =>
    match decodeCmd c with
    | .ok i => .instr i
    | .error _ => .illegal c.word

/-- What is taken next, and the state with it taken: the step a FINALIZE stands at, for it runs to its end before
anything else is taken (40_commands.md R119); else the host's next command or reset (20_memory.md R61); with none
there, nothing (00_scope.md R8). -/
def fetch (s : State) : Fetched × State :=
  match s.md5.run, s.sha1.run, s.inbox with
  | some r, _, _ => (.instr (md5StepInstr r.step), s)
  | none, some r, _ => (.instr (sha1StepInstr r.step), s)
  | none, none, [] => (.idle, s)
  | none, none, ev :: rest => (fetchEvent ev, { s with inbox := rest })

/-- The machine with a code word where `fetch` takes it next: a command at the front of the host's stream, a step index
in the sequencer of a FINALIZE opened on the engine's buffer. -/
def State.placeCode (s : State) : Code → State
  | .cmd c => { (s.setMd5Run none).setSha1Run none with inbox := .command c :: s.inbox }
  | .md5Step i => s.setMd5Run (some { md5EnterBlock s.md5.h (pad .le s.md5.buf) 0 with step := i.toFin })
  | .sha1Step t =>
    if h : t.toNat < 80 then
      (s.setMd5Run none).setSha1Run
        (some { sha1EnterBlock s.sha1.h (pad .be s.sha1.buf) 0 with step := ⟨t.toNat, h⟩ })
    else s

end Sys2Proof.Machine
end

