-- ==== Sys2Proof/Machine/Commands.lean ====
section
/-! DEFINITION. The eight host commands (40_commands.md), each the common prologue around its body. -/

namespace Sys2Proof.Machine

/-- `MD5.CREATE` (R110). -/
def execMd5Create (s : State) : Outcome :=
  .next (s.answerMd5 (s.md5.command .create (Engine.createBody md5Iv)))

/-- `MD5.APPEND` (R112). -/
def execMd5Append (payload : List Byte) (s : State) : Outcome :=
  .next (s.answerMd5 (s.md5.command .append (Engine.appendBody s.bufCap.val payload)))

/-- `MD5.FINALIZE` (R114). -/
def execMd5Finalize (s : State) : Outcome :=
  .next (s.answerMd5 (s.md5.command .finalize (Engine.finalizeBody .le md5Compress md5DigestBytes)))

/-- `MD5.RENDER` (R116). -/
def execMd5Render (s : State) : Outcome :=
  .next (s.answerMd5 (s.md5.command .render (Engine.renderBody md5Hex)))

/-- `SHA1.CREATE` (R111). -/
def execSha1Create (s : State) : Outcome :=
  .next (s.answerSha1 (s.sha1.command .create (Engine.createBody sha1Iv)))

/-- `SHA1.APPEND` (R113). -/
def execSha1Append (payload : List Byte) (s : State) : Outcome :=
  .next (s.answerSha1 (s.sha1.command .append (Engine.appendBody s.bufCap.val payload)))

/-- `SHA1.FINALIZE` (R115). -/
def execSha1Finalize (s : State) : Outcome :=
  .next (s.answerSha1 (s.sha1.command .finalize (Engine.finalizeBody .be sha1Compress sha1DigestBytes)))

/-- `SHA1.RENDER` (R117). -/
def execSha1Render (s : State) : Outcome :=
  .next (s.answerSha1 (s.sha1.command .render (Engine.renderBody sha1Hex)))

end Sys2Proof.Machine
end

