-- ==== Sys2Proof/Machine/Md5Steps.lean ====
section
/-! DEFINITION. The 64 micro-operations of the MD5 sequencer: the step of 42_md5_compress.md R166 with the row of the
step ROM (R178) that the index selects. -/

namespace Sys2Proof.Machine

/-- `MD5.STEP0` (R167). -/
def execMd5Step0 (s : State) : Outcome := md5StepOp 0 s

/-- `MD5.STEP1` (R167). -/
def execMd5Step1 (s : State) : Outcome := md5StepOp 1 s

/-- `MD5.STEP2` (R167). -/
def execMd5Step2 (s : State) : Outcome := md5StepOp 2 s

/-- `MD5.STEP3` (R167). -/
def execMd5Step3 (s : State) : Outcome := md5StepOp 3 s

/-- `MD5.STEP4` (R167). -/
def execMd5Step4 (s : State) : Outcome := md5StepOp 4 s

/-- `MD5.STEP5` (R167). -/
def execMd5Step5 (s : State) : Outcome := md5StepOp 5 s

/-- `MD5.STEP6` (R167). -/
def execMd5Step6 (s : State) : Outcome := md5StepOp 6 s

/-- `MD5.STEP7` (R167). -/
def execMd5Step7 (s : State) : Outcome := md5StepOp 7 s

/-- `MD5.STEP8` (R167). -/
def execMd5Step8 (s : State) : Outcome := md5StepOp 8 s

/-- `MD5.STEP9` (R167). -/
def execMd5Step9 (s : State) : Outcome := md5StepOp 9 s

/-- `MD5.STEP10` (R167). -/
def execMd5Step10 (s : State) : Outcome := md5StepOp 10 s

/-- `MD5.STEP11` (R167). -/
def execMd5Step11 (s : State) : Outcome := md5StepOp 11 s

/-- `MD5.STEP12` (R167). -/
def execMd5Step12 (s : State) : Outcome := md5StepOp 12 s

/-- `MD5.STEP13` (R167). -/
def execMd5Step13 (s : State) : Outcome := md5StepOp 13 s

/-- `MD5.STEP14` (R167). -/
def execMd5Step14 (s : State) : Outcome := md5StepOp 14 s

/-- `MD5.STEP15` (R167). -/
def execMd5Step15 (s : State) : Outcome := md5StepOp 15 s

/-- `MD5.STEP16` (R168). -/
def execMd5Step16 (s : State) : Outcome := md5StepOp 16 s

/-- `MD5.STEP17` (R168). -/
def execMd5Step17 (s : State) : Outcome := md5StepOp 17 s

/-- `MD5.STEP18` (R168). -/
def execMd5Step18 (s : State) : Outcome := md5StepOp 18 s

/-- `MD5.STEP19` (R168). -/
def execMd5Step19 (s : State) : Outcome := md5StepOp 19 s

/-- `MD5.STEP20` (R168). -/
def execMd5Step20 (s : State) : Outcome := md5StepOp 20 s

/-- `MD5.STEP21` (R168). -/
def execMd5Step21 (s : State) : Outcome := md5StepOp 21 s

/-- `MD5.STEP22` (R168). -/
def execMd5Step22 (s : State) : Outcome := md5StepOp 22 s

/-- `MD5.STEP23` (R168). -/
def execMd5Step23 (s : State) : Outcome := md5StepOp 23 s

/-- `MD5.STEP24` (R168). -/
def execMd5Step24 (s : State) : Outcome := md5StepOp 24 s

/-- `MD5.STEP25` (R168). -/
def execMd5Step25 (s : State) : Outcome := md5StepOp 25 s

/-- `MD5.STEP26` (R168). -/
def execMd5Step26 (s : State) : Outcome := md5StepOp 26 s

/-- `MD5.STEP27` (R168). -/
def execMd5Step27 (s : State) : Outcome := md5StepOp 27 s

/-- `MD5.STEP28` (R168). -/
def execMd5Step28 (s : State) : Outcome := md5StepOp 28 s

/-- `MD5.STEP29` (R168). -/
def execMd5Step29 (s : State) : Outcome := md5StepOp 29 s

/-- `MD5.STEP30` (R168). -/
def execMd5Step30 (s : State) : Outcome := md5StepOp 30 s

/-- `MD5.STEP31` (R168). -/
def execMd5Step31 (s : State) : Outcome := md5StepOp 31 s

/-- `MD5.STEP32` (R169). -/
def execMd5Step32 (s : State) : Outcome := md5StepOp 32 s

/-- `MD5.STEP33` (R169). -/
def execMd5Step33 (s : State) : Outcome := md5StepOp 33 s

/-- `MD5.STEP34` (R169). -/
def execMd5Step34 (s : State) : Outcome := md5StepOp 34 s

/-- `MD5.STEP35` (R169). -/
def execMd5Step35 (s : State) : Outcome := md5StepOp 35 s

/-- `MD5.STEP36` (R169). -/
def execMd5Step36 (s : State) : Outcome := md5StepOp 36 s

/-- `MD5.STEP37` (R169). -/
def execMd5Step37 (s : State) : Outcome := md5StepOp 37 s

/-- `MD5.STEP38` (R169). -/
def execMd5Step38 (s : State) : Outcome := md5StepOp 38 s

/-- `MD5.STEP39` (R169). -/
def execMd5Step39 (s : State) : Outcome := md5StepOp 39 s

/-- `MD5.STEP40` (R169). -/
def execMd5Step40 (s : State) : Outcome := md5StepOp 40 s

/-- `MD5.STEP41` (R169). -/
def execMd5Step41 (s : State) : Outcome := md5StepOp 41 s

/-- `MD5.STEP42` (R169). -/
def execMd5Step42 (s : State) : Outcome := md5StepOp 42 s

/-- `MD5.STEP43` (R169). -/
def execMd5Step43 (s : State) : Outcome := md5StepOp 43 s

/-- `MD5.STEP44` (R169). -/
def execMd5Step44 (s : State) : Outcome := md5StepOp 44 s

/-- `MD5.STEP45` (R169). -/
def execMd5Step45 (s : State) : Outcome := md5StepOp 45 s

/-- `MD5.STEP46` (R169). -/
def execMd5Step46 (s : State) : Outcome := md5StepOp 46 s

/-- `MD5.STEP47` (R169). -/
def execMd5Step47 (s : State) : Outcome := md5StepOp 47 s

/-- `MD5.STEP48` (R170). -/
def execMd5Step48 (s : State) : Outcome := md5StepOp 48 s

/-- `MD5.STEP49` (R170). -/
def execMd5Step49 (s : State) : Outcome := md5StepOp 49 s

/-- `MD5.STEP50` (R170). -/
def execMd5Step50 (s : State) : Outcome := md5StepOp 50 s

/-- `MD5.STEP51` (R170). -/
def execMd5Step51 (s : State) : Outcome := md5StepOp 51 s

/-- `MD5.STEP52` (R170). -/
def execMd5Step52 (s : State) : Outcome := md5StepOp 52 s

/-- `MD5.STEP53` (R170). -/
def execMd5Step53 (s : State) : Outcome := md5StepOp 53 s

/-- `MD5.STEP54` (R170). -/
def execMd5Step54 (s : State) : Outcome := md5StepOp 54 s

/-- `MD5.STEP55` (R170). -/
def execMd5Step55 (s : State) : Outcome := md5StepOp 55 s

/-- `MD5.STEP56` (R170). -/
def execMd5Step56 (s : State) : Outcome := md5StepOp 56 s

/-- `MD5.STEP57` (R170). -/
def execMd5Step57 (s : State) : Outcome := md5StepOp 57 s

/-- `MD5.STEP58` (R170). -/
def execMd5Step58 (s : State) : Outcome := md5StepOp 58 s

/-- `MD5.STEP59` (R170). -/
def execMd5Step59 (s : State) : Outcome := md5StepOp 59 s

/-- `MD5.STEP60` (R170). -/
def execMd5Step60 (s : State) : Outcome := md5StepOp 60 s

/-- `MD5.STEP61` (R170). -/
def execMd5Step61 (s : State) : Outcome := md5StepOp 61 s

/-- `MD5.STEP62` (R170). -/
def execMd5Step62 (s : State) : Outcome := md5StepOp 62 s

/-- `MD5.STEP63` (R170, then R175 and R33). -/
def execMd5Step63 (s : State) : Outcome := md5StepOp 63 s

end Sys2Proof.Machine
end

