-- ==== Sys2Proof/Machine/Sha1Steps.lean ====
section
/-! DEFINITION. The 80 micro-operations of the SHA-1 sequencer: the step of 43_sha1_compress.md R208 with the function
and constant of the stage the index lies in. -/

namespace Sys2Proof.Machine

/-- `SHA1.STEP0` (R203). -/
def execSha1Step0 (s : State) : Outcome := sha1StepOp 0 s

/-- `SHA1.STEP1` (R203). -/
def execSha1Step1 (s : State) : Outcome := sha1StepOp 1 s

/-- `SHA1.STEP2` (R203). -/
def execSha1Step2 (s : State) : Outcome := sha1StepOp 2 s

/-- `SHA1.STEP3` (R203). -/
def execSha1Step3 (s : State) : Outcome := sha1StepOp 3 s

/-- `SHA1.STEP4` (R203). -/
def execSha1Step4 (s : State) : Outcome := sha1StepOp 4 s

/-- `SHA1.STEP5` (R203). -/
def execSha1Step5 (s : State) : Outcome := sha1StepOp 5 s

/-- `SHA1.STEP6` (R203). -/
def execSha1Step6 (s : State) : Outcome := sha1StepOp 6 s

/-- `SHA1.STEP7` (R203). -/
def execSha1Step7 (s : State) : Outcome := sha1StepOp 7 s

/-- `SHA1.STEP8` (R203). -/
def execSha1Step8 (s : State) : Outcome := sha1StepOp 8 s

/-- `SHA1.STEP9` (R203). -/
def execSha1Step9 (s : State) : Outcome := sha1StepOp 9 s

/-- `SHA1.STEP10` (R203). -/
def execSha1Step10 (s : State) : Outcome := sha1StepOp 10 s

/-- `SHA1.STEP11` (R203). -/
def execSha1Step11 (s : State) : Outcome := sha1StepOp 11 s

/-- `SHA1.STEP12` (R203). -/
def execSha1Step12 (s : State) : Outcome := sha1StepOp 12 s

/-- `SHA1.STEP13` (R203). -/
def execSha1Step13 (s : State) : Outcome := sha1StepOp 13 s

/-- `SHA1.STEP14` (R203). -/
def execSha1Step14 (s : State) : Outcome := sha1StepOp 14 s

/-- `SHA1.STEP15` (R203). -/
def execSha1Step15 (s : State) : Outcome := sha1StepOp 15 s

/-- `SHA1.STEP16` (R203). -/
def execSha1Step16 (s : State) : Outcome := sha1StepOp 16 s

/-- `SHA1.STEP17` (R203). -/
def execSha1Step17 (s : State) : Outcome := sha1StepOp 17 s

/-- `SHA1.STEP18` (R203). -/
def execSha1Step18 (s : State) : Outcome := sha1StepOp 18 s

/-- `SHA1.STEP19` (R203). -/
def execSha1Step19 (s : State) : Outcome := sha1StepOp 19 s

/-- `SHA1.STEP20` (R204). -/
def execSha1Step20 (s : State) : Outcome := sha1StepOp 20 s

/-- `SHA1.STEP21` (R204). -/
def execSha1Step21 (s : State) : Outcome := sha1StepOp 21 s

/-- `SHA1.STEP22` (R204). -/
def execSha1Step22 (s : State) : Outcome := sha1StepOp 22 s

/-- `SHA1.STEP23` (R204). -/
def execSha1Step23 (s : State) : Outcome := sha1StepOp 23 s

/-- `SHA1.STEP24` (R204). -/
def execSha1Step24 (s : State) : Outcome := sha1StepOp 24 s

/-- `SHA1.STEP25` (R204). -/
def execSha1Step25 (s : State) : Outcome := sha1StepOp 25 s

/-- `SHA1.STEP26` (R204). -/
def execSha1Step26 (s : State) : Outcome := sha1StepOp 26 s

/-- `SHA1.STEP27` (R204). -/
def execSha1Step27 (s : State) : Outcome := sha1StepOp 27 s

/-- `SHA1.STEP28` (R204). -/
def execSha1Step28 (s : State) : Outcome := sha1StepOp 28 s

/-- `SHA1.STEP29` (R204). -/
def execSha1Step29 (s : State) : Outcome := sha1StepOp 29 s

/-- `SHA1.STEP30` (R204). -/
def execSha1Step30 (s : State) : Outcome := sha1StepOp 30 s

/-- `SHA1.STEP31` (R204). -/
def execSha1Step31 (s : State) : Outcome := sha1StepOp 31 s

/-- `SHA1.STEP32` (R204). -/
def execSha1Step32 (s : State) : Outcome := sha1StepOp 32 s

/-- `SHA1.STEP33` (R204). -/
def execSha1Step33 (s : State) : Outcome := sha1StepOp 33 s

/-- `SHA1.STEP34` (R204). -/
def execSha1Step34 (s : State) : Outcome := sha1StepOp 34 s

/-- `SHA1.STEP35` (R204). -/
def execSha1Step35 (s : State) : Outcome := sha1StepOp 35 s

/-- `SHA1.STEP36` (R204). -/
def execSha1Step36 (s : State) : Outcome := sha1StepOp 36 s

/-- `SHA1.STEP37` (R204). -/
def execSha1Step37 (s : State) : Outcome := sha1StepOp 37 s

/-- `SHA1.STEP38` (R204). -/
def execSha1Step38 (s : State) : Outcome := sha1StepOp 38 s

/-- `SHA1.STEP39` (R204). -/
def execSha1Step39 (s : State) : Outcome := sha1StepOp 39 s

/-- `SHA1.STEP40` (R205). -/
def execSha1Step40 (s : State) : Outcome := sha1StepOp 40 s

/-- `SHA1.STEP41` (R205). -/
def execSha1Step41 (s : State) : Outcome := sha1StepOp 41 s

/-- `SHA1.STEP42` (R205). -/
def execSha1Step42 (s : State) : Outcome := sha1StepOp 42 s

/-- `SHA1.STEP43` (R205). -/
def execSha1Step43 (s : State) : Outcome := sha1StepOp 43 s

/-- `SHA1.STEP44` (R205). -/
def execSha1Step44 (s : State) : Outcome := sha1StepOp 44 s

/-- `SHA1.STEP45` (R205). -/
def execSha1Step45 (s : State) : Outcome := sha1StepOp 45 s

/-- `SHA1.STEP46` (R205). -/
def execSha1Step46 (s : State) : Outcome := sha1StepOp 46 s

/-- `SHA1.STEP47` (R205). -/
def execSha1Step47 (s : State) : Outcome := sha1StepOp 47 s

/-- `SHA1.STEP48` (R205). -/
def execSha1Step48 (s : State) : Outcome := sha1StepOp 48 s

/-- `SHA1.STEP49` (R205). -/
def execSha1Step49 (s : State) : Outcome := sha1StepOp 49 s

/-- `SHA1.STEP50` (R205). -/
def execSha1Step50 (s : State) : Outcome := sha1StepOp 50 s

/-- `SHA1.STEP51` (R205). -/
def execSha1Step51 (s : State) : Outcome := sha1StepOp 51 s

/-- `SHA1.STEP52` (R205). -/
def execSha1Step52 (s : State) : Outcome := sha1StepOp 52 s

/-- `SHA1.STEP53` (R205). -/
def execSha1Step53 (s : State) : Outcome := sha1StepOp 53 s

/-- `SHA1.STEP54` (R205). -/
def execSha1Step54 (s : State) : Outcome := sha1StepOp 54 s

/-- `SHA1.STEP55` (R205). -/
def execSha1Step55 (s : State) : Outcome := sha1StepOp 55 s

/-- `SHA1.STEP56` (R205). -/
def execSha1Step56 (s : State) : Outcome := sha1StepOp 56 s

/-- `SHA1.STEP57` (R205). -/
def execSha1Step57 (s : State) : Outcome := sha1StepOp 57 s

/-- `SHA1.STEP58` (R205). -/
def execSha1Step58 (s : State) : Outcome := sha1StepOp 58 s

/-- `SHA1.STEP59` (R205). -/
def execSha1Step59 (s : State) : Outcome := sha1StepOp 59 s

/-- `SHA1.STEP60` (R206). -/
def execSha1Step60 (s : State) : Outcome := sha1StepOp 60 s

/-- `SHA1.STEP61` (R206). -/
def execSha1Step61 (s : State) : Outcome := sha1StepOp 61 s

/-- `SHA1.STEP62` (R206). -/
def execSha1Step62 (s : State) : Outcome := sha1StepOp 62 s

/-- `SHA1.STEP63` (R206). -/
def execSha1Step63 (s : State) : Outcome := sha1StepOp 63 s

/-- `SHA1.STEP64` (R206). -/
def execSha1Step64 (s : State) : Outcome := sha1StepOp 64 s

/-- `SHA1.STEP65` (R206). -/
def execSha1Step65 (s : State) : Outcome := sha1StepOp 65 s

/-- `SHA1.STEP66` (R206). -/
def execSha1Step66 (s : State) : Outcome := sha1StepOp 66 s

/-- `SHA1.STEP67` (R206). -/
def execSha1Step67 (s : State) : Outcome := sha1StepOp 67 s

/-- `SHA1.STEP68` (R206). -/
def execSha1Step68 (s : State) : Outcome := sha1StepOp 68 s

/-- `SHA1.STEP69` (R206). -/
def execSha1Step69 (s : State) : Outcome := sha1StepOp 69 s

/-- `SHA1.STEP70` (R206). -/
def execSha1Step70 (s : State) : Outcome := sha1StepOp 70 s

/-- `SHA1.STEP71` (R206). -/
def execSha1Step71 (s : State) : Outcome := sha1StepOp 71 s

/-- `SHA1.STEP72` (R206). -/
def execSha1Step72 (s : State) : Outcome := sha1StepOp 72 s

/-- `SHA1.STEP73` (R206). -/
def execSha1Step73 (s : State) : Outcome := sha1StepOp 73 s

/-- `SHA1.STEP74` (R206). -/
def execSha1Step74 (s : State) : Outcome := sha1StepOp 74 s

/-- `SHA1.STEP75` (R206). -/
def execSha1Step75 (s : State) : Outcome := sha1StepOp 75 s

/-- `SHA1.STEP76` (R206). -/
def execSha1Step76 (s : State) : Outcome := sha1StepOp 76 s

/-- `SHA1.STEP77` (R206). -/
def execSha1Step77 (s : State) : Outcome := sha1StepOp 77 s

/-- `SHA1.STEP78` (R206). -/
def execSha1Step78 (s : State) : Outcome := sha1StepOp 78 s

/-- `SHA1.STEP79` (R206, then R209 and 10_state.md R33). -/
def execSha1Step79 (s : State) : Outcome := sha1StepOp 79 s

end Sys2Proof.Machine
end

