-- ==== Sys2Proof/Machine/Dispatch.lean ====
section
/-! DEFINITION. The dispatch: one arm per constructor of `Instr`. -/

namespace Sys2Proof.Machine

def exec (i : Instr) (s : State) : Host.Outcome State Fault Refusal :=
  match i with
  | .md5Create => Sys2Proof.Machine.execMd5Create s
  | .md5Append payload => Sys2Proof.Machine.execMd5Append payload s
  | .md5Finalize => Sys2Proof.Machine.execMd5Finalize s
  | .md5Render => Sys2Proof.Machine.execMd5Render s
  | .sha1Create => Sys2Proof.Machine.execSha1Create s
  | .sha1Append payload => Sys2Proof.Machine.execSha1Append payload s
  | .sha1Finalize => Sys2Proof.Machine.execSha1Finalize s
  | .sha1Render => Sys2Proof.Machine.execSha1Render s
  | .md5Step0 => Sys2Proof.Machine.execMd5Step0 s
  | .md5Step1 => Sys2Proof.Machine.execMd5Step1 s
  | .md5Step2 => Sys2Proof.Machine.execMd5Step2 s
  | .md5Step3 => Sys2Proof.Machine.execMd5Step3 s
  | .md5Step4 => Sys2Proof.Machine.execMd5Step4 s
  | .md5Step5 => Sys2Proof.Machine.execMd5Step5 s
  | .md5Step6 => Sys2Proof.Machine.execMd5Step6 s
  | .md5Step7 => Sys2Proof.Machine.execMd5Step7 s
  | .md5Step8 => Sys2Proof.Machine.execMd5Step8 s
  | .md5Step9 => Sys2Proof.Machine.execMd5Step9 s
  | .md5Step10 => Sys2Proof.Machine.execMd5Step10 s
  | .md5Step11 => Sys2Proof.Machine.execMd5Step11 s
  | .md5Step12 => Sys2Proof.Machine.execMd5Step12 s
  | .md5Step13 => Sys2Proof.Machine.execMd5Step13 s
  | .md5Step14 => Sys2Proof.Machine.execMd5Step14 s
  | .md5Step15 => Sys2Proof.Machine.execMd5Step15 s
  | .md5Step16 => Sys2Proof.Machine.execMd5Step16 s
  | .md5Step17 => Sys2Proof.Machine.execMd5Step17 s
  | .md5Step18 => Sys2Proof.Machine.execMd5Step18 s
  | .md5Step19 => Sys2Proof.Machine.execMd5Step19 s
  | .md5Step20 => Sys2Proof.Machine.execMd5Step20 s
  | .md5Step21 => Sys2Proof.Machine.execMd5Step21 s
  | .md5Step22 => Sys2Proof.Machine.execMd5Step22 s
  | .md5Step23 => Sys2Proof.Machine.execMd5Step23 s
  | .md5Step24 => Sys2Proof.Machine.execMd5Step24 s
  | .md5Step25 => Sys2Proof.Machine.execMd5Step25 s
  | .md5Step26 => Sys2Proof.Machine.execMd5Step26 s
  | .md5Step27 => Sys2Proof.Machine.execMd5Step27 s
  | .md5Step28 => Sys2Proof.Machine.execMd5Step28 s
  | .md5Step29 => Sys2Proof.Machine.execMd5Step29 s
  | .md5Step30 => Sys2Proof.Machine.execMd5Step30 s
  | .md5Step31 => Sys2Proof.Machine.execMd5Step31 s
  | .md5Step32 => Sys2Proof.Machine.execMd5Step32 s
  | .md5Step33 => Sys2Proof.Machine.execMd5Step33 s
  | .md5Step34 => Sys2Proof.Machine.execMd5Step34 s
  | .md5Step35 => Sys2Proof.Machine.execMd5Step35 s
  | .md5Step36 => Sys2Proof.Machine.execMd5Step36 s
  | .md5Step37 => Sys2Proof.Machine.execMd5Step37 s
  | .md5Step38 => Sys2Proof.Machine.execMd5Step38 s
  | .md5Step39 => Sys2Proof.Machine.execMd5Step39 s
  | .md5Step40 => Sys2Proof.Machine.execMd5Step40 s
  | .md5Step41 => Sys2Proof.Machine.execMd5Step41 s
  | .md5Step42 => Sys2Proof.Machine.execMd5Step42 s
  | .md5Step43 => Sys2Proof.Machine.execMd5Step43 s
  | .md5Step44 => Sys2Proof.Machine.execMd5Step44 s
  | .md5Step45 => Sys2Proof.Machine.execMd5Step45 s
  | .md5Step46 => Sys2Proof.Machine.execMd5Step46 s
  | .md5Step47 => Sys2Proof.Machine.execMd5Step47 s
  | .md5Step48 => Sys2Proof.Machine.execMd5Step48 s
  | .md5Step49 => Sys2Proof.Machine.execMd5Step49 s
  | .md5Step50 => Sys2Proof.Machine.execMd5Step50 s
  | .md5Step51 => Sys2Proof.Machine.execMd5Step51 s
  | .md5Step52 => Sys2Proof.Machine.execMd5Step52 s
  | .md5Step53 => Sys2Proof.Machine.execMd5Step53 s
  | .md5Step54 => Sys2Proof.Machine.execMd5Step54 s
  | .md5Step55 => Sys2Proof.Machine.execMd5Step55 s
  | .md5Step56 => Sys2Proof.Machine.execMd5Step56 s
  | .md5Step57 => Sys2Proof.Machine.execMd5Step57 s
  | .md5Step58 => Sys2Proof.Machine.execMd5Step58 s
  | .md5Step59 => Sys2Proof.Machine.execMd5Step59 s
  | .md5Step60 => Sys2Proof.Machine.execMd5Step60 s
  | .md5Step61 => Sys2Proof.Machine.execMd5Step61 s
  | .md5Step62 => Sys2Proof.Machine.execMd5Step62 s
  | .md5Step63 => Sys2Proof.Machine.execMd5Step63 s
  | .sha1Step0 => Sys2Proof.Machine.execSha1Step0 s
  | .sha1Step1 => Sys2Proof.Machine.execSha1Step1 s
  | .sha1Step2 => Sys2Proof.Machine.execSha1Step2 s
  | .sha1Step3 => Sys2Proof.Machine.execSha1Step3 s
  | .sha1Step4 => Sys2Proof.Machine.execSha1Step4 s
  | .sha1Step5 => Sys2Proof.Machine.execSha1Step5 s
  | .sha1Step6 => Sys2Proof.Machine.execSha1Step6 s
  | .sha1Step7 => Sys2Proof.Machine.execSha1Step7 s
  | .sha1Step8 => Sys2Proof.Machine.execSha1Step8 s
  | .sha1Step9 => Sys2Proof.Machine.execSha1Step9 s
  | .sha1Step10 => Sys2Proof.Machine.execSha1Step10 s
  | .sha1Step11 => Sys2Proof.Machine.execSha1Step11 s
  | .sha1Step12 => Sys2Proof.Machine.execSha1Step12 s
  | .sha1Step13 => Sys2Proof.Machine.execSha1Step13 s
  | .sha1Step14 => Sys2Proof.Machine.execSha1Step14 s
  | .sha1Step15 => Sys2Proof.Machine.execSha1Step15 s
  | .sha1Step16 => Sys2Proof.Machine.execSha1Step16 s
  | .sha1Step17 => Sys2Proof.Machine.execSha1Step17 s
  | .sha1Step18 => Sys2Proof.Machine.execSha1Step18 s
  | .sha1Step19 => Sys2Proof.Machine.execSha1Step19 s
  | .sha1Step20 => Sys2Proof.Machine.execSha1Step20 s
  | .sha1Step21 => Sys2Proof.Machine.execSha1Step21 s
  | .sha1Step22 => Sys2Proof.Machine.execSha1Step22 s
  | .sha1Step23 => Sys2Proof.Machine.execSha1Step23 s
  | .sha1Step24 => Sys2Proof.Machine.execSha1Step24 s
  | .sha1Step25 => Sys2Proof.Machine.execSha1Step25 s
  | .sha1Step26 => Sys2Proof.Machine.execSha1Step26 s
  | .sha1Step27 => Sys2Proof.Machine.execSha1Step27 s
  | .sha1Step28 => Sys2Proof.Machine.execSha1Step28 s
  | .sha1Step29 => Sys2Proof.Machine.execSha1Step29 s
  | .sha1Step30 => Sys2Proof.Machine.execSha1Step30 s
  | .sha1Step31 => Sys2Proof.Machine.execSha1Step31 s
  | .sha1Step32 => Sys2Proof.Machine.execSha1Step32 s
  | .sha1Step33 => Sys2Proof.Machine.execSha1Step33 s
  | .sha1Step34 => Sys2Proof.Machine.execSha1Step34 s
  | .sha1Step35 => Sys2Proof.Machine.execSha1Step35 s
  | .sha1Step36 => Sys2Proof.Machine.execSha1Step36 s
  | .sha1Step37 => Sys2Proof.Machine.execSha1Step37 s
  | .sha1Step38 => Sys2Proof.Machine.execSha1Step38 s
  | .sha1Step39 => Sys2Proof.Machine.execSha1Step39 s
  | .sha1Step40 => Sys2Proof.Machine.execSha1Step40 s
  | .sha1Step41 => Sys2Proof.Machine.execSha1Step41 s
  | .sha1Step42 => Sys2Proof.Machine.execSha1Step42 s
  | .sha1Step43 => Sys2Proof.Machine.execSha1Step43 s
  | .sha1Step44 => Sys2Proof.Machine.execSha1Step44 s
  | .sha1Step45 => Sys2Proof.Machine.execSha1Step45 s
  | .sha1Step46 => Sys2Proof.Machine.execSha1Step46 s
  | .sha1Step47 => Sys2Proof.Machine.execSha1Step47 s
  | .sha1Step48 => Sys2Proof.Machine.execSha1Step48 s
  | .sha1Step49 => Sys2Proof.Machine.execSha1Step49 s
  | .sha1Step50 => Sys2Proof.Machine.execSha1Step50 s
  | .sha1Step51 => Sys2Proof.Machine.execSha1Step51 s
  | .sha1Step52 => Sys2Proof.Machine.execSha1Step52 s
  | .sha1Step53 => Sys2Proof.Machine.execSha1Step53 s
  | .sha1Step54 => Sys2Proof.Machine.execSha1Step54 s
  | .sha1Step55 => Sys2Proof.Machine.execSha1Step55 s
  | .sha1Step56 => Sys2Proof.Machine.execSha1Step56 s
  | .sha1Step57 => Sys2Proof.Machine.execSha1Step57 s
  | .sha1Step58 => Sys2Proof.Machine.execSha1Step58 s
  | .sha1Step59 => Sys2Proof.Machine.execSha1Step59 s
  | .sha1Step60 => Sys2Proof.Machine.execSha1Step60 s
  | .sha1Step61 => Sys2Proof.Machine.execSha1Step61 s
  | .sha1Step62 => Sys2Proof.Machine.execSha1Step62 s
  | .sha1Step63 => Sys2Proof.Machine.execSha1Step63 s
  | .sha1Step64 => Sys2Proof.Machine.execSha1Step64 s
  | .sha1Step65 => Sys2Proof.Machine.execSha1Step65 s
  | .sha1Step66 => Sys2Proof.Machine.execSha1Step66 s
  | .sha1Step67 => Sys2Proof.Machine.execSha1Step67 s
  | .sha1Step68 => Sys2Proof.Machine.execSha1Step68 s
  | .sha1Step69 => Sys2Proof.Machine.execSha1Step69 s
  | .sha1Step70 => Sys2Proof.Machine.execSha1Step70 s
  | .sha1Step71 => Sys2Proof.Machine.execSha1Step71 s
  | .sha1Step72 => Sys2Proof.Machine.execSha1Step72 s
  | .sha1Step73 => Sys2Proof.Machine.execSha1Step73 s
  | .sha1Step74 => Sys2Proof.Machine.execSha1Step74 s
  | .sha1Step75 => Sys2Proof.Machine.execSha1Step75 s
  | .sha1Step76 => Sys2Proof.Machine.execSha1Step76 s
  | .sha1Step77 => Sys2Proof.Machine.execSha1Step77 s
  | .sha1Step78 => Sys2Proof.Machine.execSha1Step78 s
  | .sha1Step79 => Sys2Proof.Machine.execSha1Step79 s

end Sys2Proof.Machine
end

