-- ==== Sys2Proof/Machine/Step.lean ====
section
/-! DEFINITION. One step of the machine, and the host's placing of an instruction where the step takes it. -/

namespace Sys2Proof.Machine

/-- One step: what `fetch` takes, executed. A command is one step (40_commands.md R119); inside an opened FINALIZE a step
is one micro-operation. -/
def step (s : State) : Host.Outcome State Fault Refusal :=
  match fetch s with
  | (.idle, s') => .next s'
  | (.reset, s') => .next s'.applyReset
  | (.instr i, s') => exec i s'
  | (.illegal word, s') => .next (s'.illegalCommand word)

/-- The state with the table's number `w` of `nbits` bits where the next step takes it (log 2, log 11). -/
def State.withFetchWord (s : State) (nbits w : Nat) : State := s.placeCode (tableCode nbits w)

end Sys2Proof.Machine
end

