-- ==== Sys2Proof/Safety.lean ====
section
/-! DEFINITION. What claims are stated in: the digest of a message, the invariant of the machine, the states between
commands, the engine of an instruction. -/

namespace Sys2Proof.Machine

/-- The MD5 digest state of a message: its padded blocks compressed in order from `MD5_IV` (41_padding_sequencing.md
R146). -/
def md5Digest (msg : List Byte) : Md5Words := (blocksOf (pad .le msg)).foldl md5Compress md5Iv

/-- The SHA-1 digest state of a message: its padded blocks compressed in order from `SHA1_IV` (41_padding_sequencing.md
R146). -/
def sha1Digest (msg : List Byte) : Sha1Words := (blocksOf (pad .be msg)).foldl sha1Compress sha1Iv

/-- Between commands: no FINALIZE is open, which is every state the host can see (10_state.md R20, 40_commands.md
R119). -/
abbrev State.Quiescent (s : State) : Prop := s.md5.run = none ∧ s.sha1.run = none

/-- Working state that an open MD5.FINALIZE on engine `e` can have: the message padded, a block of it, its words
loaded, `H` the chaining value before that block, and the working registers after the first `step` steps. -/
def Md5Run.Ok (e : Md5Engine) (r : Md5Run) : Prop :=
  r.pmsg = pad .le e.buf ∧ r.blk < nblk r.pmsg ∧ r.x = md5Load (blockAt r.pmsg r.blk) ∧
    e.h = ((blocksOf r.pmsg).take r.blk).foldl md5Compress md5Iv ∧
    r.work = ((List.finRange 64).take r.step.val).foldl (md5Step r.x) e.h

/-- Working state that an open SHA1.FINALIZE on engine `e` can have. -/
def Sha1Run.Ok (e : Sha1Engine) (r : Sha1Run) : Prop :=
  r.pmsg = pad .be e.buf ∧ r.blk < nblk r.pmsg ∧ r.w = sha1Schedule (blockAt r.pmsg r.blk) ∧
    e.h = ((blocksOf r.pmsg).take r.blk).foldl sha1Compress sha1Iv ∧
    r.work = ((List.finRange 80).take r.step.val).foldl (sha1Step r.w) e.h

/-- The invariant of one engine: the buffer fits (10_state.md R26), CAUSE is 0 exactly while FAULT is 0 (R29), the
buffer is empty outside ACTIVE (R26), `H` is the initial value in ACTIVE (R25), and a FINALIZE is open only on a
created engine with no fault, in working state that it can have. -/
def Engine.Inv {H R : Type} (cap : Nat) (iv : H) (ok : Engine H R → R → Prop) (e : Engine H R) : Prop :=
  bufWf cap e.buf ∧ (e.fault = false ↔ e.cause = .none) ∧ (e.phase ≠ .active → e.buf = []) ∧
    (e.phase = .active → e.run = none → e.h = iv) ∧
    (∀ r, e.run = some r → e.phase = .active ∧ e.fault = false ∧ ok e r)

/-- The invariant of the machine. -/
def State.Inv (s : State) : Prop :=
  s.md5.Inv s.bufCap.val md5Iv Md5Run.Ok ∧ s.sha1.Inv s.bufCap.val sha1Iv Sha1Run.Ok

/-- The engine an instruction belongs to: bit 2 of a command's word, the sequencer of a step (30_encoding.md R81, R87,
R88). -/
def instrAlg (i : Instr) : Alg :=
  match encode i with
  | .cmd c => algOfWord c.word
  | .md5Step _ => .md5
  | .sha1Step _ => .sha1

/-- The next state of an outcome, if it is one. -/
def nextOf (o : Outcome) : Option State :=
  match o with
  | .next s => some s
  | .fault _ => none
  | .refused _ => none

/-- Instructions executed one after another; no result if one stops. -/
def execAll (is : List Instr) (s : State) : Option State := is.foldlM (fun st i => nextOf (exec i st)) s

end Sys2Proof.Machine
end

