-- ==== Sys2Proof/Certificates/Slice0/Obligations.lean ====
section
/-! DEFINITION. The statements about the model, each a proposition that cites the rules of spec/ it is about. An
equation `exec i s = .next { s with … }` says the whole next state, so it is the instruction's completion and its
frame at once: every field not named is unchanged. -/

open Sys2Proof Sys2Proof.Machine

/-- Decode and encode agree on every instruction, every payload of APPEND included (R83, R87, R88). -/
def Obligations.DecodeOfEncodeIsTheInstruction : Prop :=
  ∀ i : Instr, decode (encode i) = .ok i ∧ (encode i).wf = true

/-- The other direction of the round trip, and which words are refused (R81, R84, R87, R88). -/
def Obligations.LegalCodeWordsAreTheOnesThatDecode : Prop :=
  ∀ c : Code,
    (c.wf = true ↔ ∃ i, decode c = .ok i) ∧
      ∀ i, decode c = .ok i →
        match c with
        | .cmd m => encode i = .cmd ⟨m.word, if m.word.toNat % 4 = 1 then m.payload else []⟩
        | .md5Step j => encode i = .md5Step j
        | .sha1Step t => encode i = .sha1Step t

/-- The legal command words of R83, written out bit by bit. The spec marks R83 as derived from R81 and R82. -/
def Obligations.TheEightCommandWords : Prop :=
  ∀ p : List Byte,
    decode (.cmd ⟨0b00000000#8, p⟩) = .ok .md5Create ∧ decode (.cmd ⟨0b00000001#8, p⟩) = .ok (.md5Append p) ∧
      decode (.cmd ⟨0b00000010#8, p⟩) = .ok .md5Finalize ∧ decode (.cmd ⟨0b00000011#8, p⟩) = .ok .md5Render ∧
      decode (.cmd ⟨0b00000100#8, p⟩) = .ok .sha1Create ∧ decode (.cmd ⟨0b00000101#8, p⟩) = .ok (.sha1Append p) ∧
      decode (.cmd ⟨0b00000110#8, p⟩) = .ok .sha1Finalize ∧ decode (.cmd ⟨0b00000111#8, p⟩) = .ok .sha1Render ∧
      ∀ w : Byte, 8 ≤ w.toNat → decode (.cmd ⟨w, p⟩) = .error (.illegalCmd w)

/-- A sanity statement: a few indices (R87, R88). -/
def Obligations.SampleStepIndices : Prop :=
  decode (.md5Step 0b000000#6) = .ok .md5Step0 ∧ decode (.md5Step 0b010011#6) = .ok .md5Step19 ∧
    decode (.md5Step 0b100001#6) = .ok .md5Step33 ∧ decode (.md5Step 0b111111#6) = .ok .md5Step63 ∧
    decode (.sha1Step 0b0000001#7) = .ok .sha1Step1 ∧ decode (.sha1Step 0b0010100#7) = .ok .sha1Step20 ∧
    decode (.sha1Step 0b0111011#7) = .ok .sha1Step59 ∧ decode (.sha1Step 0b1001111#7) = .ok .sha1Step79 ∧
    ∀ t : BitVec 7, 80 ≤ t.toNat → decode (.sha1Step t) = .error (.reservedStep t)

/-- The link from the per-instruction statements to a run. That a step inside an opened FINALIZE is a micro-operation is the model's granularity (log 5). -/
def Obligations.StepRunsTheDecodedInstruction : Prop :=
  (∀ (s : State) (c : Cmd) (rest : List HostEvent) (i : Instr), s.Quiescent → s.inbox = .command c :: rest →
      decode (.cmd c) = .ok i → step s = exec i { s with inbox := rest }) ∧
    (∀ (s : State) (r : Md5Run) (i : Instr), s.md5.run = some r →
      decode (.md5Step (BitVec.ofNat 6 r.step.val)) = .ok i → step s = exec i s) ∧
    (∀ (s : State) (r : Sha1Run) (i : Instr), s.md5.run = none → s.sha1.run = some r →
      decode (.sha1Step (BitVec.ofNat 7 r.step.val)) = .ok i → step s = exec i s)

/-- R8: an engine has no step that a command did not start; that the model's step then answers the same state is log 2. -/
def Obligations.IdleStepChangesNothing : Prop :=
  ∀ s : State, s.Quiescent → s.inbox = [] → step s = .next s

/-- R252, with what raising a fault does (R250). -/
def Obligations.IllegalWordFaultsItsEngine : Prop :=
  ∀ (s : State) (w : Byte) (p : List Byte) (rest : List HostEvent), s.Quiescent →
    s.inbox = .command ⟨w, p⟩ :: rest → 8 ≤ w.toNat →
    (w.getLsbD 2 = false → s.md5.fault = false → step s = .next
      { s with
        md5 := { s.md5 with fault := true, cause := .illegalCmd }, inbox := rest,
        outbox := s.outbox ++ [⟨Engine.status { s.md5 with fault := true, cause := .illegalCmd }, false, []⟩] }) ∧
    (w.getLsbD 2 = true → s.sha1.fault = false → step s = .next
      { s with
        sha1 := { s.sha1 with fault := true, cause := .illegalCmd }, inbox := rest,
        outbox := s.outbox ++ [⟨Engine.status { s.sha1 with fault := true, cause := .illegalCmd }, false, []⟩] })

/-- R280, R37. -/
def Obligations.ResetEventResetsBothEngines : Prop :=
  ∀ (s : State) (rest : List HostEvent), s.Quiescent → s.inbox = .reset :: rest →
    ∃ t, step s = .next t ∧
      t.md5.phase = .idle ∧ t.md5.fault = false ∧ t.md5.cause = .none ∧ t.md5.buf = [] ∧ t.md5.run = none ∧
      t.sha1.phase = .idle ∧ t.sha1.fault = false ∧ t.sha1.cause = .none ∧ t.sha1.buf = [] ∧ t.sha1.run = none ∧
      t.bufCap = s.bufCap ∧ t.inbox = rest ∧ t.outbox = s.outbox

/-- R37; the value of the parameter is the argument. -/
def Obligations.ResetLeavesBothEnginesIdle : Prop :=
  ∀ cap : Fin (2 ^ 61),
    let s := State.resetWith cap
    s.bufCap = cap ∧
      s.md5.phase = .idle ∧ s.md5.fault = false ∧ s.md5.cause = .none ∧ s.md5.buf = [] ∧ s.md5.run = none ∧
      s.md5.status = 0x00#8 ∧
      s.sha1.phase = .idle ∧ s.sha1.fault = false ∧ s.sha1.cause = .none ∧ s.sha1.buf = [] ∧ s.sha1.run = none ∧
      s.sha1.status = 0x00#8

/-- R110; the equation is also the frame. -/
def Obligations.Md5CreateResult : Prop :=
  ∀ s : State, s.md5.run = none →
    (s.md5.fault = false → s.md5.cause = .none →
      exec .md5Create s = .next
        { s with
          md5 := { s.md5 with h := ⟨0x67452301#32, 0xefcdab89#32, 0x98badcfe#32, 0x10325476#32⟩, buf := [], phase := .active },
          outbox := s.outbox ++ [⟨0x01#8, true, []⟩] }) ∧
    (s.md5.fault = true →
      exec .md5Create s = .next { s with outbox := s.outbox ++ [⟨s.md5.status, false, []⟩] }) ∧
    ∀ p, decode (.cmd ⟨0x00#8, p⟩) = .ok .md5Create

/-- R111; the equation is also the frame. -/
def Obligations.Sha1CreateResult : Prop :=
  ∀ s : State, s.sha1.run = none →
    (s.sha1.fault = false → s.sha1.cause = .none →
      exec .sha1Create s = .next
        { s with
          sha1 := { s.sha1 with h := ⟨0x67452301#32, 0xefcdab89#32, 0x98badcfe#32, 0x10325476#32, 0xc3d2e1f0#32⟩, buf := [], phase := .active },
          outbox := s.outbox ++ [⟨0x01#8, true, []⟩] }) ∧
    (s.sha1.fault = true →
      exec .sha1Create s = .next { s with outbox := s.outbox ++ [⟨s.sha1.status, false, []⟩] }) ∧
    ∀ p, decode (.cmd ⟨0x04#8, p⟩) = .ok .sha1Create

/-- R112; each equation is also the frame. The first clause is the completion. -/
def Obligations.Md5AppendResult : Prop :=
  ∀ (s : State) (p : List Byte), (s.md5.fault = false → s.md5.cause = .none →
    (s.md5.phase = .active → s.md5.buf.length + p.length ≤ s.bufCap.val →
      exec (.md5Append p) s = .next
        { s with
          md5 := { s.md5 with buf := s.md5.buf ++ p }, outbox := s.outbox ++ [⟨0x01#8, true, []⟩] }) ∧
    (s.md5.phase = .active → s.bufCap.val < s.md5.buf.length + p.length →
      exec (.md5Append p) s = .next
        { s with
          md5 := { s.md5 with fault := true, cause := .capacity },
          outbox := s.outbox ++ [⟨0x2d#8, false, []⟩] }) ∧
    (s.md5.phase = .idle →
      exec (.md5Append p) s = .next
        { s with
          md5 := { s.md5 with fault := true, cause := .noInstance },
          outbox := s.outbox ++ [⟨0x14#8, false, []⟩] }) ∧
    (s.md5.phase = .done →
      exec (.md5Append p) s = .next
        { s with
          md5 := { s.md5 with fault := true, cause := .reuse },
          outbox := s.outbox ++ [⟨0x1e#8, false, []⟩] })) ∧
    (s.md5.fault = true →
      exec (.md5Append p) s = .next { s with outbox := s.outbox ++ [⟨s.md5.status, false, []⟩] }) ∧
    decode (.cmd ⟨0x01#8, p⟩) = .ok (.md5Append p)

/-- R113; each equation is also the frame. The first clause is the completion. -/
def Obligations.Sha1AppendResult : Prop :=
  ∀ (s : State) (p : List Byte), (s.sha1.fault = false → s.sha1.cause = .none →
    (s.sha1.phase = .active → s.sha1.buf.length + p.length ≤ s.bufCap.val →
      exec (.sha1Append p) s = .next
        { s with
          sha1 := { s.sha1 with buf := s.sha1.buf ++ p }, outbox := s.outbox ++ [⟨0x01#8, true, []⟩] }) ∧
    (s.sha1.phase = .active → s.bufCap.val < s.sha1.buf.length + p.length →
      exec (.sha1Append p) s = .next
        { s with
          sha1 := { s.sha1 with fault := true, cause := .capacity },
          outbox := s.outbox ++ [⟨0x2d#8, false, []⟩] }) ∧
    (s.sha1.phase = .idle →
      exec (.sha1Append p) s = .next
        { s with
          sha1 := { s.sha1 with fault := true, cause := .noInstance },
          outbox := s.outbox ++ [⟨0x14#8, false, []⟩] }) ∧
    (s.sha1.phase = .done →
      exec (.sha1Append p) s = .next
        { s with
          sha1 := { s.sha1 with fault := true, cause := .reuse },
          outbox := s.outbox ++ [⟨0x1e#8, false, []⟩] })) ∧
    (s.sha1.fault = true →
      exec (.sha1Append p) s = .next { s with outbox := s.outbox ++ [⟨s.sha1.status, false, []⟩] }) ∧
    decode (.cmd ⟨0x05#8, p⟩) = .ok (.sha1Append p)

/-- R114; each equation is also the frame. The first clause is the completion. -/
def Obligations.Md5FinalizeResult : Prop :=
  ∀ s : State, s.md5.run = none → (s.md5.fault = false → s.md5.cause = .none →
    (s.md5.phase = .active →
      let pmsg := pad .le s.md5.buf
      let h := (List.range (pmsg.length / 64)).foldl
        (fun h blk => md5Compress h ((pmsg.drop (64 * blk)).take 64)) s.md5.h
      exec .md5Finalize s = .next
        { s with
          md5 := { s.md5 with h := h, buf := [], phase := .done },
          outbox := s.outbox ++ [⟨0x02#8, true, md5DigestBytes h⟩] }) ∧
    (s.md5.phase = .idle →
      exec .md5Finalize s = .next
        { s with
          md5 := { s.md5 with fault := true, cause := .noInstance },
          outbox := s.outbox ++ [⟨0x14#8, false, []⟩] }) ∧
    (s.md5.phase = .done →
      exec .md5Finalize s = .next
        { s with
          md5 := { s.md5 with fault := true, cause := .reuse },
          outbox := s.outbox ++ [⟨0x1e#8, false, []⟩] })) ∧
    (s.md5.fault = true →
      exec .md5Finalize s = .next { s with outbox := s.outbox ++ [⟨s.md5.status, false, []⟩] }) ∧
    ∀ p, decode (.cmd ⟨0x02#8, p⟩) = .ok .md5Finalize

/-- R115; each equation is also the frame. The first clause is the completion. -/
def Obligations.Sha1FinalizeResult : Prop :=
  ∀ s : State, s.sha1.run = none → (s.sha1.fault = false → s.sha1.cause = .none →
    (s.sha1.phase = .active →
      let pmsg := pad .be s.sha1.buf
      let h := (List.range (pmsg.length / 64)).foldl
        (fun h blk => sha1Compress h ((pmsg.drop (64 * blk)).take 64)) s.sha1.h
      exec .sha1Finalize s = .next
        { s with
          sha1 := { s.sha1 with h := h, buf := [], phase := .done },
          outbox := s.outbox ++ [⟨0x02#8, true, sha1DigestBytes h⟩] }) ∧
    (s.sha1.phase = .idle →
      exec .sha1Finalize s = .next
        { s with
          sha1 := { s.sha1 with fault := true, cause := .noInstance },
          outbox := s.outbox ++ [⟨0x14#8, false, []⟩] }) ∧
    (s.sha1.phase = .done →
      exec .sha1Finalize s = .next
        { s with
          sha1 := { s.sha1 with fault := true, cause := .reuse },
          outbox := s.outbox ++ [⟨0x1e#8, false, []⟩] })) ∧
    (s.sha1.fault = true →
      exec .sha1Finalize s = .next { s with outbox := s.outbox ++ [⟨s.sha1.status, false, []⟩] }) ∧
    ∀ p, decode (.cmd ⟨0x06#8, p⟩) = .ok .sha1Finalize

/-- R116; each equation is also the frame. The first clause is the completion. -/
def Obligations.Md5RenderResult : Prop :=
  ∀ s : State, (s.md5.fault = false → s.md5.cause = .none →
    (s.md5.phase = .done →
      exec .md5Render s = .next { s with outbox := s.outbox ++ [⟨0x02#8, true, md5Hex s.md5.h⟩] }) ∧
    (s.md5.phase = .idle →
      exec .md5Render s = .next
        { s with
          md5 := { s.md5 with fault := true, cause := .noInstance },
          outbox := s.outbox ++ [⟨0x14#8, false, []⟩] }) ∧
    (s.md5.phase = .active →
      exec .md5Render s = .next
        { s with
          md5 := { s.md5 with fault := true, cause := .noDigest },
          outbox := s.outbox ++ [⟨0x25#8, false, []⟩] })) ∧
    (s.md5.fault = true →
      exec .md5Render s = .next { s with outbox := s.outbox ++ [⟨s.md5.status, false, []⟩] }) ∧
    ∀ p, decode (.cmd ⟨0x03#8, p⟩) = .ok .md5Render

/-- R117; each equation is also the frame. The first clause is the completion. -/
def Obligations.Sha1RenderResult : Prop :=
  ∀ s : State, (s.sha1.fault = false → s.sha1.cause = .none →
    (s.sha1.phase = .done →
      exec .sha1Render s = .next { s with outbox := s.outbox ++ [⟨0x02#8, true, sha1Hex s.sha1.h⟩] }) ∧
    (s.sha1.phase = .idle →
      exec .sha1Render s = .next
        { s with
          sha1 := { s.sha1 with fault := true, cause := .noInstance },
          outbox := s.outbox ++ [⟨0x14#8, false, []⟩] }) ∧
    (s.sha1.phase = .active →
      exec .sha1Render s = .next
        { s with
          sha1 := { s.sha1 with fault := true, cause := .noDigest },
          outbox := s.outbox ++ [⟨0x25#8, false, []⟩] })) ∧
    (s.sha1.fault = true →
      exec .sha1Render s = .next { s with outbox := s.outbox ++ [⟨s.sha1.status, false, []⟩] }) ∧
    ∀ p, decode (.cmd ⟨0x07#8, p⟩) = .ok .sha1Render

/-- R259. -/
def Obligations.FaultedEngineRefusesEveryCommand : Prop :=
  ∀ (s : State) (p : List Byte),
    (s.md5.fault = true → ∀ i ∈ ([.md5Create, .md5Append p, .md5Finalize, .md5Render] : List Instr),
      exec i s = .next { s with outbox := s.outbox ++ [⟨s.md5.status, false, []⟩] }) ∧
    (s.sha1.fault = true → ∀ i ∈ ([.sha1Create, .sha1Append p, .sha1Finalize, .sha1Render] : List Instr),
      exec i s = .next { s with outbox := s.outbox ++ [⟨s.sha1.status, false, []⟩] }) ∧
    (∀ (w : Byte) (rest : List HostEvent), s.Quiescent → s.inbox = .command ⟨w, p⟩ :: rest → 8 ≤ w.toNat →
      (w.getLsbD 2 = false → s.md5.fault = true →
        step s = .next { s with inbox := rest, outbox := s.outbox ++ [⟨s.md5.status, false, []⟩] }) ∧
      (w.getLsbD 2 = true → s.sha1.fault = true →
        step s = .next { s with inbox := rest, outbox := s.outbox ++ [⟨s.sha1.status, false, []⟩] })) ∧
    ∀ rest : List HostEvent, s.Quiescent →
      ∃ t, step { s with inbox := .reset :: rest } = .next t ∧ t.md5.fault = false ∧ t.sha1.fault = false

/-- R29: both are set by a faulting command, never cleared by any command, cleared only by reset. That CAUSE is 0 while FAULT = 0 is part of the invariant. -/
def Obligations.FaultIsStickyUntilReset : Prop :=
  ∀ s t : State, step s = .next t → (s.inbox.head? = some .reset ∧ s.Quiescent) ∨
    ((s.md5.fault = true → t.md5.fault = true ∧ t.md5.cause = s.md5.cause) ∧
      (s.sha1.fault = true → t.sha1.fault = true ∧ t.sha1.cause = s.sha1.cause))

/-- R30, with the codes of R28 and R251. -/
def Obligations.StatusWordLayout : Prop :=
  (∀ e : Md5Engine,
      e.status.extractLsb' 0 2 = (match e.phase with | .idle => 0b00#2 | .active => 0b01#2 | .done => 0b10#2) ∧
      e.status.getLsbD 2 = e.fault ∧
      e.status.extractLsb' 3 3 = (match e.cause with
        | .none => 0#3 | .illegalCmd => 1#3 | .noInstance => 2#3 | .reuse => 3#3 | .noDigest => 4#3
        | .capacity => 5#3 | .invariant => 6#3) ∧
      e.status.extractLsb' 6 2 = 0b00#2) ∧
    (∀ e : Sha1Engine,
      e.status.extractLsb' 0 2 = (match e.phase with | .idle => 0b00#2 | .active => 0b01#2 | .done => 0b10#2) ∧
      e.status.getLsbD 2 = e.fault ∧
      e.status.extractLsb' 3 3 = (match e.cause with
        | .none => 0#3 | .illegalCmd => 1#3 | .noInstance => 2#3 | .reuse => 3#3 | .noDigest => 4#3
        | .capacity => 5#3 | .invariant => 6#3) ∧
      e.status.extractLsb' 6 2 = 0b00#2)

/-- R86. The spec marks the last sentence of R86 as derived from R250 and R259. -/
def Obligations.EveryCommandIsAnsweredOnce : Prop :=
  (∀ (s : State) (p : List Byte),
      (∀ i ∈ ([.md5Create, .md5Append p, .md5Finalize, .md5Render] : List Instr), ∃ t r, exec i s = .next t ∧
        t.outbox = s.outbox ++ [r] ∧ r.status = t.md5.status ∧ (r.ok = false ↔ r.status.getLsbD 2 = true) ∧
        (r.ok = false → r.data = []) ∧
        (r.ok = true → r.data = if i = .md5Finalize then md5DigestBytes t.md5.h
          else if i = .md5Render then md5Hex t.md5.h else [])) ∧
      (∀ i ∈ ([.sha1Create, .sha1Append p, .sha1Finalize, .sha1Render] : List Instr), ∃ t r, exec i s = .next t ∧
        t.outbox = s.outbox ++ [r] ∧ r.status = t.sha1.status ∧ (r.ok = false ↔ r.status.getLsbD 2 = true) ∧
        (r.ok = false → r.data = []) ∧
        (r.ok = true → r.data = if i = .sha1Finalize then sha1DigestBytes t.sha1.h
          else if i = .sha1Render then sha1Hex t.sha1.h else []))) ∧
    (∀ (s : State) (w : Byte) (p : List Byte) (rest : List HostEvent), s.Quiescent →
      s.inbox = .command ⟨w, p⟩ :: rest → 8 ≤ w.toNat → ∃ t r, step s = .next t ∧ t.outbox = s.outbox ++ [r] ∧
        r.status = (if w.getLsbD 2 then t.sha1.status else t.md5.status) ∧ r.ok = false ∧
        r.status.getLsbD 2 = true ∧ r.data = [])

/-- R66, in terms of the read of one byte; who empties a buffer is R26, and that an open FINALIZE ends with its last step is the model's choice (log 5). -/
def Obligations.AppendIsTheOnlyStore : Prop :=
  ∀ (s : State) (p : List Byte),
    (s.md5.fault = false → s.md5.phase = .active → s.md5.buf.length + p.length ≤ s.bufCap.val →
      ∃ t, exec (.md5Append p) s = .next t ∧ t.md5.buf.length = s.md5.buf.length + p.length ∧
        (∀ i, i < s.md5.buf.length → bufRead t.md5.buf i = bufRead s.md5.buf i) ∧
        (∀ i, bufRead t.md5.buf (s.md5.buf.length + i) = bufRead p i)) ∧
    (s.sha1.fault = false → s.sha1.phase = .active → s.sha1.buf.length + p.length ≤ s.bufCap.val →
      ∃ t, exec (.sha1Append p) s = .next t ∧ t.sha1.buf.length = s.sha1.buf.length + p.length ∧
        (∀ i, i < s.sha1.buf.length → bufRead t.sha1.buf i = bufRead s.sha1.buf i) ∧
        (∀ i, bufRead t.sha1.buf (s.sha1.buf.length + i) = bufRead p i)) ∧
    (s.bufCap.val < s.md5.buf.length + p.length →
      ∃ t, exec (.md5Append p) s = .next t ∧ t.md5.buf = s.md5.buf ∧ t.md5.fault = true) ∧
    (s.bufCap.val < s.sha1.buf.length + p.length →
      ∃ t, exec (.sha1Append p) s = .next t ∧ t.sha1.buf = s.sha1.buf ∧ t.sha1.fault = true) ∧
    ∀ (i : Instr) (t : State), exec i s = .next t →
      (t.md5.buf = s.md5.buf ∨ (t.md5.buf = [] ∧ (i = .md5Create ∨ i = .md5Finalize ∨ i = .md5Step63)) ∨
        ∃ q, i = .md5Append q ∧ t.md5.buf = s.md5.buf ++ q) ∧
      (t.sha1.buf = s.sha1.buf ∨ (t.sha1.buf = [] ∧ (i = .sha1Create ∨ i = .sha1Finalize ∨ i = .sha1Step79)) ∨
        ∃ q, i = .sha1Append q ∧ t.sha1.buf = s.sha1.buf ++ q)

/-- A rule of the whole machine (R25); that the feed-forward runs with the last step is the model's choice (log 5). -/
def Obligations.WhoWritesTheDigestState : Prop :=
  ∀ (i : Instr) (s t : State), exec i s = .next t →
    (t.md5.h ≠ s.md5.h → i = .md5Create ∨ i = .md5Finalize ∨ i = .md5Step63) ∧
    (t.sha1.h ≠ s.sha1.h → i = .sha1Create ∨ i = .sha1Finalize ∨ i = .sha1Step79) ∧
    (s.md5.phase = .done → s.md5.run = none → t.md5.h ≠ s.md5.h → i = .md5Create) ∧
    (s.sha1.phase = .done → s.sha1.run = none → t.sha1.h ≠ s.sha1.h → i = .sha1Create)

/-- R36, R264: what one engine cannot change and cannot learn, over all 152 instructions. The stop named is log 6. -/
def Obligations.EnginesAreIndependent : Prop :=
  ∀ (i : Instr) (s u : State), s.bufCap = u.bufCap →
    (∀ t, exec i s = .next t →
      t.bufCap = s.bufCap ∧ t.inbox = s.inbox ∧ t.freeCount = s.freeCount ∧
      (instrAlg i = .md5 → t.sha1 = s.sha1) ∧ (instrAlg i = .sha1 → t.md5 = s.md5)) ∧
    (instrAlg i = .md5 → s.md5 = u.md5 →
      ((exec i s = .fault .stepOutsideFinalize ∧ exec i u = .fault .stepOutsideFinalize) ∨
        ∃ t v rs, exec i s = .next t ∧ exec i u = .next v ∧ t.md5 = v.md5 ∧ rs.length ≤ 1 ∧
          t.outbox = s.outbox ++ rs ∧ v.outbox = u.outbox ++ rs)) ∧
    (instrAlg i = .sha1 → s.sha1 = u.sha1 →
      ((exec i s = .fault .stepOutsideFinalize ∧ exec i u = .fault .stepOutsideFinalize) ∨
        ∃ t v rs, exec i s = .next t ∧ exec i u = .next v ∧ t.sha1 = v.sha1 ∧ rs.length ≤ 1 ∧
          t.outbox = s.outbox ++ rs ∧ v.outbox = u.outbox ++ rs))

/-- R61, its last sentence for two commands. -/
def Obligations.CommandsToDifferentEnginesCommute : Prop :=
  ∀ (s : State) (p q : List Byte), ∀ i ∈ ([.md5Create, .md5Append p, .md5Finalize, .md5Render] : List Instr),
    ∀ j ∈ ([.sha1Create, .sha1Append q, .sha1Finalize, .sha1Render] : List Instr),
      ∃ t u ri rj, execAll [i, j] s = some t ∧ execAll [j, i] s = some u ∧ t.md5 = u.md5 ∧ t.sha1 = u.sha1 ∧
        t.bufCap = u.bufCap ∧ t.outbox = s.outbox ++ [ri, rj] ∧ u.outbox = s.outbox ++ [rj, ri]

/-- R120, R121, R260 over every lifecycle of commands. -/
def Obligations.DigestIsThatOfTheConcatenation : Prop :=
  (∀ (s : State) (ps : List (List Byte)) (n : Nat), s.md5.fault = false → s.md5.cause = .none → s.md5.run = none →
      ps.flatten.length ≤ s.bufCap.val →
      ∃ t, execAll (.md5Create :: (ps.map Instr.md5Append ++ .md5Finalize :: List.replicate n .md5Render)) s = some t ∧
        t.md5.phase = .done ∧ t.md5.fault = false ∧ t.md5.h = md5Digest ps.flatten ∧
        t.outbox = s.outbox ++ ⟨0x01#8, true, []⟩ :: (List.replicate ps.length ⟨0x01#8, true, []⟩ ++
          ⟨0x02#8, true, md5DigestBytes (md5Digest ps.flatten)⟩ ::
            List.replicate n ⟨0x02#8, true, md5Hex (md5Digest ps.flatten)⟩)) ∧
    (∀ (s : State) (ps : List (List Byte)) (n : Nat), s.sha1.fault = false → s.sha1.cause = .none → s.sha1.run = none →
      ps.flatten.length ≤ s.bufCap.val →
      ∃ t, execAll (.sha1Create :: (ps.map Instr.sha1Append ++ .sha1Finalize :: List.replicate n .sha1Render)) s = some t ∧
        t.sha1.phase = .done ∧ t.sha1.fault = false ∧ t.sha1.h = sha1Digest ps.flatten ∧
        t.outbox = s.outbox ++ ⟨0x01#8, true, []⟩ :: (List.replicate ps.length ⟨0x01#8, true, []⟩ ++
          ⟨0x02#8, true, sha1DigestBytes (sha1Digest ps.flatten)⟩ ::
            List.replicate n ⟨0x02#8, true, sha1Hex (sha1Digest ps.flatten)⟩))

/-- R121. The spec marks R121 as derived from R112, R113 and R66. -/
def Obligations.ChunkBoundariesDoNotMatter : Prop :=
  (∀ (s t u : State) (ps : List (List Byte)), execAll (.md5Create :: ps.map Instr.md5Append) s = some t →
      execAll [.md5Create, .md5Append ps.flatten] s = some u → t.md5.fault = false → u.md5.fault = false →
      t.md5 = u.md5 ∧ ∃ t' u', exec .md5Finalize t = .next t' ∧ exec .md5Finalize u = .next u' ∧
        t'.outbox.getLast? = u'.outbox.getLast?) ∧
    (∀ (s t u : State) (ps : List (List Byte)), execAll (.sha1Create :: ps.map Instr.sha1Append) s = some t →
      execAll [.sha1Create, .sha1Append ps.flatten] s = some u → t.sha1.fault = false → u.sha1.fault = false →
      t.sha1 = u.sha1 ∧ ∃ t' u', exec .sha1Finalize t = .next t' ∧ exec .sha1Finalize u = .next u' ∧
        t'.outbox.getLast? = u'.outbox.getLast?)

/-- R37. -/
def Obligations.InvariantHoldsAtReset : Prop :=
  ∀ cap : Fin (2 ^ 61), (State.resetWith cap).Inv

/-- The invariant is defined in Safety.lean. -/
def Obligations.EveryStepKeepsTheInvariant : Prop :=
  ∀ s t : State, s.Inv → step s = .next t → t.Inv

/-- R119. -/
def Obligations.BetweenCommandsNoFinalizeStaysOpen : Prop :=
  (∀ s : State, s.Quiescent → ∃ t, step s = .next t ∧ t.Quiescent) ∧
    ∀ (s : State) (p : List Byte), ∀ i ∈ ([.md5Create, .md5Append p, .md5Finalize, .md5Render, .sha1Create,
        .sha1Append p, .sha1Finalize, .sha1Render] : List Instr),
      ∃ t, exec i s = .next t ∧
        (t.md5.fault = true → t.md5.h = s.md5.h ∧ t.md5.buf = s.md5.buf ∧ t.md5.phase = s.md5.phase) ∧
        (t.sha1.fault = true → t.sha1.h = s.sha1.h ∧ t.sha1.buf = s.sha1.buf ∧ t.sha1.phase = s.sha1.phase)

/-- R18, R119: the faults of the spec are states, and the model's own stop (log 6) is never reached by a step. -/
def Obligations.TheMachineNeverStops : Prop :=
  ∀ s : State, ∃ t, step s = .next t

/-- R143. The spec marks R143 as derived from R140. -/
def Obligations.ZeroCountIsTheLoopsCount : Prop :=
  ∀ n : Nat, (n + 1 + zeroCount n + 8) % 64 = 0 ∧ (∀ z, (n + 1 + z + 8) % 64 = 0 → zeroCount n ≤ z) ∧
    zeroCount n ≤ 63 ∧ (zeroCount n : Int) = (55 - (n : Int)) % 64 ∧ (zeroCount n = 0 ↔ n % 64 = 55) ∧
    (n % 64 ≤ 55 → zeroCount n = 55 - n % 64) ∧ (56 ≤ n % 64 → zeroCount n = 119 - n % 64) ∧
    ∀ (o : ByteOrder) (msg : List Byte), msg.length = n → (pad o msg).length = n + 1 + zeroCount n + 8

/-- R140, R144, R54; without wrap by R149. -/
def Obligations.PaddedMessageLayout : Prop :=
  ∀ (o : ByteOrder) (msg : List Byte), msg.length < 2 ^ 61 →
    let p := pad o msg
    let last := p.drop (p.length - 8)
    p.length % 64 = 0 ∧ p.take msg.length = msg ∧ p[msg.length]? = some 0x80#8 ∧
      (∀ j, msg.length < j → j ≤ msg.length + zeroCount msg.length → p[j]? = some 0x00#8) ∧ last.length = 8 ∧
      (match o with | .le => last.reverse | .be => last).foldl (fun (acc : Nat) (b : Byte) => 256 * acc + b.toNat) 0 = 8 * msg.length

/-- R147, and the cut of R145. The spec marks R147 as derived from R143. -/
def Obligations.BlockCount : Prop :=
  ∀ (o : ByteOrder) (msg : List Byte),
    let n := msg.length
    nblk (pad o msg) = (n + 8) / 64 + 1 ∧ 1 ≤ nblk (pad o msg) ∧
      (n ≤ 55 → nblk (pad o msg) = 1) ∧ (56 ≤ n → n ≤ 119 → nblk (pad o msg) = 2) ∧
      (120 ≤ n → n ≤ 183 → nblk (pad o msg) = 3) ∧ (184 ≤ n → n ≤ 247 → nblk (pad o msg) = 4) ∧
      (∀ b ∈ blocksOf (pad o msg), b.length = 64) ∧ (blocksOf (pad o msg)).flatten = pad o msg

/-- R13. The spec marks the definition as general knowledge (log 14). -/
def Obligations.RotationMovesEveryBit : Prop :=
  ∀ (x : Word) (n : Nat), n ≤ 31 →
    (∀ j, j < 32 → (rotl x n).getLsbD ((j + n) % 32) = x.getLsbD j) ∧ rotl x 0 = x ∧
      (1 ≤ n → rotl x n = (x <<< n) ||| (x >>> (32 - n))) ∧
      ∀ i : Fin 64, romS i ∈ [4, 5, 6, 7, 9, 10, 11, 12, 14, 15, 16, 17, 20, 21, 22, 23]

/-- R14. The spec marks the definitions as general knowledge (log 14). -/
def Obligations.ByteOrderHelpers : Prop :=
  (∀ b0 b1 b2 b3 : Byte,
      (le32 b0 b1 b2 b3).toNat = b0.toNat + 2 ^ 8 * b1.toNat + 2 ^ 16 * b2.toNat + 2 ^ 24 * b3.toNat ∧
      (be32 b0 b1 b2 b3).toNat = 2 ^ 24 * b0.toNat + 2 ^ 16 * b1.toNat + 2 ^ 8 * b2.toNat + b3.toNat ∧
      le32Bytes (le32 b0 b1 b2 b3) = [b0, b1, b2, b3] ∧ be32Bytes (be32 b0 b1 b2 b3) = [b0, b1, b2, b3]) ∧
    (∀ w : Word,
      le32Bytes w = [w.extractLsb' 0 8, w.extractLsb' 8 8, w.extractLsb' 16 8, w.extractLsb' 24 8] ∧
      be32Bytes w = [w.extractLsb' 24 8, w.extractLsb' 16 8, w.extractLsb' 8 8, w.extractLsb' 0 8] ∧
      bswap32 w = be32 (w.extractLsb' 0 8) (w.extractLsb' 8 8) (w.extractLsb' 16 8) (w.extractLsb' 24 8) ∧
      le32Bytes (bswap32 w) = be32Bytes w) ∧
    (∀ v : BitVec 64, be64Bytes v = (le64Bytes v).reverse ∧ (le64Bytes v).length = 8 ∧
      ∀ m, m < 8 → (le64Bytes v)[m]? = some (v.extractLsb' (8 * m) 8))

/-- R162 to R165 for MD5, R203 to R206 for SHA-1. The spec marks G(b, c, d) = F(d, b, c) of R163 as derived by substitution in R162. -/
def Obligations.NonlinearFunctionsPerBit : Prop :=
  ∀ (b c d : Word) (j : Nat), j < 32 →
    let bj := b.getLsbD j
    let cj := c.getLsbD j
    let dj := d.getLsbD j
    (md5F b c d).getLsbD j = (if bj then cj else dj) ∧ (md5G b c d).getLsbD j = (if dj then bj else cj) ∧
      (md5Hf b c d).getLsbD j = (bj ^^ cj ^^ dj) ∧ (md5I b c d).getLsbD j = (cj ^^ (bj || !dj)) ∧
      (sha1Ch b c d).getLsbD j = (if bj then cj else dj) ∧ (sha1Parity b c d).getLsbD j = (bj ^^ cj ^^ dj) ∧
      (sha1Maj b c d).getLsbD j = decide (2 ≤ bj.toNat + cj.toNat + dj.toNat) ∧
      md5G b c d = md5F d b c

/-- R52; the words are those of the run that enters the block, whatever H is. -/
def Obligations.Md5BlockLoad : Prop :=
  ∀ (h : Md5Words) (pmsg : List Byte) (blk : Nat) (k : Fin 16), blk < pmsg.length / 64 →
    let at_ := fun j => (pmsg.getD (64 * blk + 4 * k.val + j) 0).toNat;
    ((md5EnterBlock h pmsg blk).x.get k).toNat =
      at_ 0 + 2 ^ 8 * at_ 1 + 2 ^ 16 * at_ 2 + 2 ^ 24 * at_ 3

/-- R53, R201; the words are those of the run that enters the block, whatever H is. -/
def Obligations.Sha1BlockLoadAndExpansion : Prop :=
  ∀ (h : Sha1Words) (pmsg : List Byte) (blk : Nat), blk < pmsg.length / 64 →
    let w := (sha1EnterBlock h pmsg blk).w;
    (∀ k : Fin 16,
      let at_ := fun j => (pmsg.getD (64 * blk + 4 * k.val + j) 0).toNat;
      (w.get ⟨k.val, by omega⟩).toNat = 2 ^ 24 * at_ 0 + 2 ^ 16 * at_ 1 + 2 ^ 8 * at_ 2 + at_ 3) ∧
    ∀ (i : Fin 80), 16 ≤ i.val →
      w.get i = rotl (w.get ⟨i.val - 3, by omega⟩ ^^^ w.get ⟨i.val - 8, by omega⟩ ^^^
        w.get ⟨i.val - 14, by omega⟩ ^^^ w.get ⟨i.val - 16, by omega⟩) 1

/-- The consequence R54 draws. -/
def Obligations.LengthWordsOfTheLastBlock : Prop :=
  ∀ msg : List Byte, msg.length < 2 ^ 61 →
    let m := pad .le msg
    let x := md5Load (blockAt m (nblk m - 1))
    let p := pad .be msg
    let w := sha1Schedule (blockAt p (nblk p - 1))
    (x.get 14).toNat = 8 * msg.length % 2 ^ 32 ∧ (x.get 15).toNat = 8 * msg.length / 2 ^ 32 ∧
      (w.get 14).toNat = 8 * msg.length / 2 ^ 32 ∧ (w.get 15).toNat = 8 * msg.length % 2 ^ 32

/-- R166 with the rows of R178 for R167; the completion of MD5.STEP0 to MD5.STEP15, and their frame. The counter becomes the index plus one from any counter: log 7 (DESIGN CHOICE). Shifts, word order and role rotation: log 12, T: log 13, the rotation itself: log 14 (PRESUMED). -/
def Obligations.Md5Round1Steps : Prop :=
  ∀ row ∈ ([
        (.md5Step0, 1, 0, 7, 0xd76aa478#32), (.md5Step1, 2, 1, 12, 0xe8c7b756#32),
        (.md5Step2, 3, 2, 17, 0x242070db#32), (.md5Step3, 4, 3, 22, 0xc1bdceee#32),
        (.md5Step4, 5, 4, 7, 0xf57c0faf#32), (.md5Step5, 6, 5, 12, 0x4787c62a#32),
        (.md5Step6, 7, 6, 17, 0xa8304613#32), (.md5Step7, 8, 7, 22, 0xfd469501#32),
        (.md5Step8, 9, 8, 7, 0x698098d8#32), (.md5Step9, 10, 9, 12, 0x8b44f7af#32),
        (.md5Step10, 11, 10, 17, 0xffff5bb1#32), (.md5Step11, 12, 11, 22, 0x895cd7be#32),
        (.md5Step12, 13, 12, 7, 0x6b901122#32), (.md5Step13, 14, 13, 12, 0xfd987193#32),
        (.md5Step14, 15, 14, 17, 0xa679438e#32), (.md5Step15, 16, 15, 22, 0x49b40821#32)] :
          List (Instr × Fin 64 × Fin 16 × Nat × Word)), ∀ (s : State) (r : Md5Run), s.md5.run = some r →
      let w := r.work
      exec row.1 s = .next { s with md5 := { s.md5 with run := some { r with
        step := row.2.1,
        work := ⟨w.d, w.b + (w.a + ((w.b &&& w.c) ||| (~~~w.b &&& w.d)) + r.x.get row.2.2.1 + row.2.2.2.2).rotateLeft row.2.2.2.1,
          w.b, w.c⟩ } } }

/-- R166 with the rows of R178 for R168; the completion of MD5.STEP16 to MD5.STEP31, and their frame. The counter becomes the index plus one from any counter: log 7 (DESIGN CHOICE). Shifts, word order and role rotation: log 12, T: log 13, the rotation itself: log 14 (PRESUMED). -/
def Obligations.Md5Round2Steps : Prop :=
  ∀ row ∈ ([
        (.md5Step16, 17, 1, 5, 0xf61e2562#32), (.md5Step17, 18, 6, 9, 0xc040b340#32),
        (.md5Step18, 19, 11, 14, 0x265e5a51#32), (.md5Step19, 20, 0, 20, 0xe9b6c7aa#32),
        (.md5Step20, 21, 5, 5, 0xd62f105d#32), (.md5Step21, 22, 10, 9, 0x02441453#32),
        (.md5Step22, 23, 15, 14, 0xd8a1e681#32), (.md5Step23, 24, 4, 20, 0xe7d3fbc8#32),
        (.md5Step24, 25, 9, 5, 0x21e1cde6#32), (.md5Step25, 26, 14, 9, 0xc33707d6#32),
        (.md5Step26, 27, 3, 14, 0xf4d50d87#32), (.md5Step27, 28, 8, 20, 0x455a14ed#32),
        (.md5Step28, 29, 13, 5, 0xa9e3e905#32), (.md5Step29, 30, 2, 9, 0xfcefa3f8#32),
        (.md5Step30, 31, 7, 14, 0x676f02d9#32), (.md5Step31, 32, 12, 20, 0x8d2a4c8a#32)] :
          List (Instr × Fin 64 × Fin 16 × Nat × Word)), ∀ (s : State) (r : Md5Run), s.md5.run = some r →
      let w := r.work
      exec row.1 s = .next { s with md5 := { s.md5 with run := some { r with
        step := row.2.1,
        work := ⟨w.d, w.b + (w.a + ((w.b &&& w.d) ||| (w.c &&& ~~~w.d)) + r.x.get row.2.2.1 + row.2.2.2.2).rotateLeft row.2.2.2.1,
          w.b, w.c⟩ } } }

/-- R166 with the rows of R178 for R169; the completion of MD5.STEP32 to MD5.STEP47, and their frame. The counter becomes the index plus one from any counter: log 7 (DESIGN CHOICE). Shifts, word order and role rotation: log 12, T: log 13, the rotation itself: log 14 (PRESUMED). -/
def Obligations.Md5Round3Steps : Prop :=
  ∀ row ∈ ([
        (.md5Step32, 33, 5, 4, 0xfffa3942#32), (.md5Step33, 34, 8, 11, 0x8771f681#32),
        (.md5Step34, 35, 11, 16, 0x6d9d6122#32), (.md5Step35, 36, 14, 23, 0xfde5380c#32),
        (.md5Step36, 37, 1, 4, 0xa4beea44#32), (.md5Step37, 38, 4, 11, 0x4bdecfa9#32),
        (.md5Step38, 39, 7, 16, 0xf6bb4b60#32), (.md5Step39, 40, 10, 23, 0xbebfbc70#32),
        (.md5Step40, 41, 13, 4, 0x289b7ec6#32), (.md5Step41, 42, 0, 11, 0xeaa127fa#32),
        (.md5Step42, 43, 3, 16, 0xd4ef3085#32), (.md5Step43, 44, 6, 23, 0x04881d05#32),
        (.md5Step44, 45, 9, 4, 0xd9d4d039#32), (.md5Step45, 46, 12, 11, 0xe6db99e5#32),
        (.md5Step46, 47, 15, 16, 0x1fa27cf8#32), (.md5Step47, 48, 2, 23, 0xc4ac5665#32)] :
          List (Instr × Fin 64 × Fin 16 × Nat × Word)), ∀ (s : State) (r : Md5Run), s.md5.run = some r →
      let w := r.work
      exec row.1 s = .next { s with md5 := { s.md5 with run := some { r with
        step := row.2.1,
        work := ⟨w.d, w.b + (w.a + (w.b ^^^ w.c ^^^ w.d) + r.x.get row.2.2.1 + row.2.2.2.2).rotateLeft row.2.2.2.1,
          w.b, w.c⟩ } } }

/-- R166 with the rows of R178 for R170; the completion of MD5.STEP48 to MD5.STEP62, and their frame. The counter becomes the index plus one from any counter: log 7 (DESIGN CHOICE). Shifts, word order and role rotation: log 12, T: log 13, the rotation itself: log 14 (PRESUMED). -/
def Obligations.Md5Round4Steps : Prop :=
  ∀ row ∈ ([
        (.md5Step48, 49, 0, 6, 0xf4292244#32), (.md5Step49, 50, 7, 10, 0x432aff97#32),
        (.md5Step50, 51, 14, 15, 0xab9423a7#32), (.md5Step51, 52, 5, 21, 0xfc93a039#32),
        (.md5Step52, 53, 12, 6, 0x655b59c3#32), (.md5Step53, 54, 3, 10, 0x8f0ccc92#32),
        (.md5Step54, 55, 10, 15, 0xffeff47d#32), (.md5Step55, 56, 1, 21, 0x85845dd1#32),
        (.md5Step56, 57, 8, 6, 0x6fa87e4f#32), (.md5Step57, 58, 15, 10, 0xfe2ce6e0#32),
        (.md5Step58, 59, 6, 15, 0xa3014314#32), (.md5Step59, 60, 13, 21, 0x4e0811a1#32),
        (.md5Step60, 61, 4, 6, 0xf7537e82#32), (.md5Step61, 62, 11, 10, 0xbd3af235#32),
        (.md5Step62, 63, 2, 15, 0x2ad7d2bb#32)] :
          List (Instr × Fin 64 × Fin 16 × Nat × Word)), ∀ (s : State) (r : Md5Run), s.md5.run = some r →
      let w := r.work
      exec row.1 s = .next { s with md5 := { s.md5 with run := some { r with
        step := row.2.1,
        work := ⟨w.d, w.b + (w.a + (w.c ^^^ (w.b ||| ~~~w.d)) + r.x.get row.2.2.1 + row.2.2.2.2).rotateLeft row.2.2.2.1,
          w.b, w.c⟩ } } }

/-- R170, R175, R33; the completion of MD5.STEP63, and its frame. That the feed-forward, the next block's load and the end run with this micro-operation is log 5, that the counter may hold any index log 7 (DESIGN CHOICE). Word index, shift and role rotation: log 12, T: log 13, the rotation itself: log 14 (PRESUMED). -/
def Obligations.Md5LastStepLeavesTheBlock : Prop :=
  ∀ (s : State) (r : Md5Run), s.md5.run = some r →
    let w := r.work
    let h : Md5Words := ⟨s.md5.h.a + w.d,
      s.md5.h.b + (w.b + (w.a + (w.c ^^^ (w.b ||| ~~~w.d)) + r.x.get 9 + 0xeb86d391#32).rotateLeft 21),
      s.md5.h.c + w.b, s.md5.h.d + w.c⟩
    (r.blk + 1 < r.pmsg.length / 64 → exec .md5Step63 s = .next { s with md5 := { s.md5 with
      h := h,
      run := some { pmsg := r.pmsg, blk := r.blk + 1, step := 0,
                    x := md5Load ((r.pmsg.drop (64 * (r.blk + 1))).take 64), work := h } } }) ∧
    (r.pmsg.length / 64 ≤ r.blk + 1 →
      let e : Md5Engine := { s.md5 with h := h, buf := [], phase := .done, run := none }
      exec .md5Step63 s =
        .next { s with md5 := e, outbox := s.outbox ++ [⟨e.status, true, md5DigestBytes h⟩] })

/-- R208 with the function and constant of R203; the completion of SHA1.STEP0 to SHA1.STEP19, and their frame. The counter becomes the index plus one from any counter: log 7 (DESIGN CHOICE). The rotation itself: log 14 (PRESUMED). -/
def Obligations.Sha1Stage0Steps : Prop :=
  ∀ row ∈ ([
        (.sha1Step0, 0, 1), (.sha1Step1, 1, 2), (.sha1Step2, 2, 3), (.sha1Step3, 3, 4), (.sha1Step4, 4, 5),
        (.sha1Step5, 5, 6), (.sha1Step6, 6, 7), (.sha1Step7, 7, 8), (.sha1Step8, 8, 9), (.sha1Step9, 9, 10),
        (.sha1Step10, 10, 11), (.sha1Step11, 11, 12), (.sha1Step12, 12, 13), (.sha1Step13, 13, 14), (.sha1Step14, 14, 15),
        (.sha1Step15, 15, 16), (.sha1Step16, 16, 17), (.sha1Step17, 17, 18), (.sha1Step18, 18, 19), (.sha1Step19, 19, 20)] :
          List (Instr × Fin 80 × Fin 80)), ∀ (s : State) (r : Sha1Run), s.sha1.run = some r →
      let w := r.work
      let temp := w.a.rotateLeft 5 + ((w.b &&& w.c) ||| (~~~w.b &&& w.d)) + w.e + 0x5a827999#32 + r.w.get row.2.1
      exec row.1 s = .next { s with sha1 := { s.sha1 with run := some { r with
        step := row.2.2, temp := temp, work := ⟨temp, w.a, w.b.rotateLeft 30, w.c, w.d⟩ } } }

/-- R208 with the function and constant of R204; the completion of SHA1.STEP20 to SHA1.STEP39, and their frame. The counter becomes the index plus one from any counter: log 7 (DESIGN CHOICE). The rotation itself: log 14 (PRESUMED). -/
def Obligations.Sha1Stage1Steps : Prop :=
  ∀ row ∈ ([
        (.sha1Step20, 20, 21), (.sha1Step21, 21, 22), (.sha1Step22, 22, 23), (.sha1Step23, 23, 24), (.sha1Step24, 24, 25),
        (.sha1Step25, 25, 26), (.sha1Step26, 26, 27), (.sha1Step27, 27, 28), (.sha1Step28, 28, 29), (.sha1Step29, 29, 30),
        (.sha1Step30, 30, 31), (.sha1Step31, 31, 32), (.sha1Step32, 32, 33), (.sha1Step33, 33, 34), (.sha1Step34, 34, 35),
        (.sha1Step35, 35, 36), (.sha1Step36, 36, 37), (.sha1Step37, 37, 38), (.sha1Step38, 38, 39), (.sha1Step39, 39, 40)] :
          List (Instr × Fin 80 × Fin 80)), ∀ (s : State) (r : Sha1Run), s.sha1.run = some r →
      let w := r.work
      let temp := w.a.rotateLeft 5 + (w.b ^^^ w.c ^^^ w.d) + w.e + 0x6ed9eba1#32 + r.w.get row.2.1
      exec row.1 s = .next { s with sha1 := { s.sha1 with run := some { r with
        step := row.2.2, temp := temp, work := ⟨temp, w.a, w.b.rotateLeft 30, w.c, w.d⟩ } } }

/-- R208 with the function and constant of R205; the completion of SHA1.STEP40 to SHA1.STEP59, and their frame. The counter becomes the index plus one from any counter: log 7 (DESIGN CHOICE). The rotation itself: log 14 (PRESUMED). -/
def Obligations.Sha1Stage2Steps : Prop :=
  ∀ row ∈ ([
        (.sha1Step40, 40, 41), (.sha1Step41, 41, 42), (.sha1Step42, 42, 43), (.sha1Step43, 43, 44), (.sha1Step44, 44, 45),
        (.sha1Step45, 45, 46), (.sha1Step46, 46, 47), (.sha1Step47, 47, 48), (.sha1Step48, 48, 49), (.sha1Step49, 49, 50),
        (.sha1Step50, 50, 51), (.sha1Step51, 51, 52), (.sha1Step52, 52, 53), (.sha1Step53, 53, 54), (.sha1Step54, 54, 55),
        (.sha1Step55, 55, 56), (.sha1Step56, 56, 57), (.sha1Step57, 57, 58), (.sha1Step58, 58, 59), (.sha1Step59, 59, 60)] :
          List (Instr × Fin 80 × Fin 80)), ∀ (s : State) (r : Sha1Run), s.sha1.run = some r →
      let w := r.work
      let temp := w.a.rotateLeft 5 + ((w.b &&& w.c) ||| (w.b &&& w.d) ||| (w.c &&& w.d)) + w.e + 0x8f1bbcdc#32 + r.w.get row.2.1
      exec row.1 s = .next { s with sha1 := { s.sha1 with run := some { r with
        step := row.2.2, temp := temp, work := ⟨temp, w.a, w.b.rotateLeft 30, w.c, w.d⟩ } } }

/-- R208 with the function and constant of R206; the completion of SHA1.STEP60 to SHA1.STEP78, and their frame. The counter becomes the index plus one from any counter: log 7 (DESIGN CHOICE). The rotation itself: log 14 (PRESUMED). -/
def Obligations.Sha1Stage3Steps : Prop :=
  ∀ row ∈ ([
        (.sha1Step60, 60, 61), (.sha1Step61, 61, 62), (.sha1Step62, 62, 63), (.sha1Step63, 63, 64), (.sha1Step64, 64, 65),
        (.sha1Step65, 65, 66), (.sha1Step66, 66, 67), (.sha1Step67, 67, 68), (.sha1Step68, 68, 69), (.sha1Step69, 69, 70),
        (.sha1Step70, 70, 71), (.sha1Step71, 71, 72), (.sha1Step72, 72, 73), (.sha1Step73, 73, 74), (.sha1Step74, 74, 75),
        (.sha1Step75, 75, 76), (.sha1Step76, 76, 77), (.sha1Step77, 77, 78), (.sha1Step78, 78, 79)] :
          List (Instr × Fin 80 × Fin 80)), ∀ (s : State) (r : Sha1Run), s.sha1.run = some r →
      let w := r.work
      let temp := w.a.rotateLeft 5 + (w.b ^^^ w.c ^^^ w.d) + w.e + 0xca62c1d6#32 + r.w.get row.2.1
      exec row.1 s = .next { s with sha1 := { s.sha1 with run := some { r with
        step := row.2.2, temp := temp, work := ⟨temp, w.a, w.b.rotateLeft 30, w.c, w.d⟩ } } }

/-- R206, R209, R33; the completion of SHA1.STEP79, and its frame. That the feed-forward, the next block's load and the end run with this micro-operation is log 5, that the counter may hold any index log 7 (DESIGN CHOICE); the rotation itself: log 14 (PRESUMED). The temp of the new block is a free value (log 9), so any value is allowed. -/
def Obligations.Sha1LastStepLeavesTheBlock : Prop :=
  ∀ (s : State) (r : Sha1Run), s.sha1.run = some r →
    let w := r.work
    let h : Sha1Words :=
      ⟨s.sha1.h.a + (w.a.rotateLeft 5 + (w.b ^^^ w.c ^^^ w.d) + w.e + 0xca62c1d6#32 + r.w.get 79),
        s.sha1.h.b + w.a, s.sha1.h.c + w.b.rotateLeft 30, s.sha1.h.d + w.c, s.sha1.h.e + w.d⟩
    (r.blk + 1 < r.pmsg.length / 64 → ∃ temp, exec .sha1Step79 s = .next { s with sha1 := { s.sha1 with
      h := h,
      run := some { pmsg := r.pmsg, blk := r.blk + 1, step := 0,
                    w := sha1Schedule ((r.pmsg.drop (64 * (r.blk + 1))).take 64), work := h, temp := temp } } }) ∧
    (r.pmsg.length / 64 ≤ r.blk + 1 →
      let e : Sha1Engine := { s.sha1 with h := h, buf := [], phase := .done, run := none }
      exec .sha1Step79 s =
        .next { s with sha1 := e, outbox := s.outbox ++ [⟨e.status, true, sha1DigestBytes h⟩] })

/-- R37: outside FINALIZE the working registers do not exist; that the model stops there is log 6. -/
def Obligations.StepsOutsideFinalizeStop : Prop :=
  ∀ s : State,
    (∀ i : Fin 64, ∀ op, decode (.md5Step (BitVec.ofFin i)) = .ok op → s.md5.run = none →
      exec op s = .fault .stepOutsideFinalize) ∧
    (∀ (t : BitVec 7), ∀ op, decode (.sha1Step t) = .ok op → s.sha1.run = none →
      exec op s = .fault .stepOutsideFinalize)

/-- The refinement between the command (one transition) and the sequencer (R33); the opened state is log 5. -/
def Obligations.Md5FinalizeIsItsMicroOperations : Prop :=
  ∀ s : State, s.md5.phase = .active → s.md5.fault = false →
    core.run (64 * nblk (pad .le s.md5.buf)) s.openMd5 = exec .md5Finalize s

/-- The refinement between the command (one transition) and the sequencer (R33); the opened state is log 5. -/
def Obligations.Sha1FinalizeIsItsMicroOperations : Prop :=
  ∀ s : State, s.md5.run = none → s.sha1.phase = .active → s.sha1.fault = false →
    core.run (80 * nblk (pad .be s.sha1.buf)) s.openSha1 = exec .sha1Finalize s

/-- R230 to R234, R236, which the spec marks as derived from R230 to R234 and R14. ASCII and the byte orders: log 14 (PRESUMED). -/
def Obligations.HexIsTheHexOfTheDigestBytes : Prop :=
  let hex2 := fun v : Byte => [hexDigit (v.extractLsb' 4 4), hexDigit (v.extractLsb' 0 4)];
  (∀ v : BitVec 4, [0x30#8, 0x31#8, 0x32#8, 0x33#8, 0x34#8, 0x35#8, 0x36#8, 0x37#8, 0x38#8, 0x39#8, 0x61#8, 0x62#8,
      0x63#8, 0x64#8, 0x65#8, 0x66#8][v.toNat]? = some (hexDigit v)) ∧
    (∀ (h : Md5Words) (j : Nat), j < 4 →
      let w := [h.a, h.b, h.c, h.d].getD j 0;
      (∀ m, m < 4 → (md5DigestBytes h)[4 * j + m]? = some (w.extractLsb' (8 * m) 8) ∧
        (md5Hex h)[8 * j + 2 * m]? = some (hexDigit (w.extractLsb' (8 * m + 4) 4)) ∧
        (md5Hex h)[8 * j + 2 * m + 1]? = some (hexDigit (w.extractLsb' (8 * m) 4)))) ∧
    (∀ (h : Sha1Words) (j : Nat), j < 5 →
      let w := [h.a, h.b, h.c, h.d, h.e].getD j 0;
      (∀ m, m < 4 → (sha1DigestBytes h)[4 * j + m]? = some (w.extractLsb' (24 - 8 * m) 8)) ∧
        ∀ k, k < 8 → (sha1Hex h)[8 * j + k]? = some (hexDigit (w.extractLsb' (28 - 4 * k) 4))) ∧
    (∀ h : Md5Words, md5Hex h = (md5DigestBytes h).flatMap hex2) ∧
    (∀ h : Sha1Words, sha1Hex h = (sha1DigestBytes h).flatMap hex2)

/-- The lengths are R235, the characters R234; the ASCII coding is log 14 (PRESUMED). -/
def Obligations.OutputLengthsAndDigits : Prop :=
  (∀ h : Md5Words, (md5DigestBytes h).length = 16 ∧ (md5Hex h).length = 32 ∧
      ∀ c ∈ md5Hex h, (0x30 ≤ c.toNat ∧ c.toNat ≤ 0x39) ∨ (0x61 ≤ c.toNat ∧ c.toNat ≤ 0x66)) ∧
    (∀ h : Sha1Words, (sha1DigestBytes h).length = 20 ∧ (sha1Hex h).length = 40 ∧
      ∀ c ∈ sha1Hex h, (0x30 ≤ c.toNat ∧ c.toNat ≤ 0x39) ∨ (0x61 ≤ c.toNat ∧ c.toNat ≤ 0x66))

/-- R256. -/
def Obligations.CapacityIsTheOnlyBoundOnData : Prop :=
  ∀ (s : State) (p : List Byte),
    (s.md5.phase = .active → s.md5.fault = false → s.md5.cause = .none → ∃ t, exec (.md5Append p) s = .next t ∧
      (t.md5.cause = .capacity ↔ s.bufCap.val < s.md5.buf.length + p.length) ∧
      (t.md5.fault = true ↔ t.md5.cause = .capacity) ∧
      (s.md5.buf.length + p.length = s.bufCap.val → t.md5.buf = s.md5.buf ++ p)) ∧
    (s.sha1.phase = .active → s.sha1.fault = false → s.sha1.cause = .none → ∃ t, exec (.sha1Append p) s = .next t ∧
      (t.sha1.cause = .capacity ↔ s.bufCap.val < s.sha1.buf.length + p.length) ∧
      (t.sha1.fault = true ↔ t.sha1.cause = .capacity) ∧
      (s.sha1.buf.length + p.length = s.bufCap.val → t.sha1.buf = s.sha1.buf ++ p))

/-- R258 for the order. That INVARIANT is recorded by no instruction is R257, which the spec marks as derived, and log 16 (DEDUCED). -/
def Obligations.FaultPriority : Prop :=
  (∀ (s : State) (p : List Byte), s.md5.fault = false → s.bufCap.val < s.md5.buf.length + p.length →
      ∃ t, exec (.md5Append p) s = .next t ∧ t.md5.cause =
        (match s.md5.phase with | .idle => .noInstance | .active => .capacity | .done => .reuse)) ∧
    (∀ (s : State) (p : List Byte), s.sha1.fault = false → s.bufCap.val < s.sha1.buf.length + p.length →
      ∃ t, exec (.sha1Append p) s = .next t ∧ t.sha1.cause =
        (match s.sha1.phase with | .idle => .noInstance | .active => .capacity | .done => .reuse)) ∧
    (∀ (s : State) (w : Byte) (p : List Byte) (rest : List HostEvent), s.Quiescent →
      s.inbox = .command ⟨w, p⟩ :: rest → 8 ≤ w.toNat → ∃ t, step s = .next t ∧
        (w.getLsbD 2 = false → t.md5.cause = if s.md5.fault then s.md5.cause else .illegalCmd) ∧
        (w.getLsbD 2 = true → t.sha1.cause = if s.sha1.fault then s.sha1.cause else .illegalCmd)) ∧
    (∀ (i : Instr) (s t : State), exec i s = .next t →
      (s.md5.fault = true → t.md5.cause = s.md5.cause) ∧ (s.sha1.fault = true → t.sha1.cause = s.sha1.cause) ∧
      (t.md5.cause = .invariant → s.md5.cause = .invariant) ∧
      (t.sha1.cause = .invariant → s.sha1.cause = .invariant))
end

