-- ==== Sys2Proof/Laws/Padding.lean ====
section
/-! SUPPORT. What the padder and the block loop do, said once. -/

namespace Sys2Proof.Machine

@[simp] theorem le64Bytes_length (v : BitVec 64) : (le64Bytes v).length = 8 := rfl

@[simp] theorem be64Bytes_length (v : BitVec 64) : (be64Bytes v).length = 8 := rfl

@[simp] theorem lengthField_length (o : ByteOrder) (n : Nat) : (lengthField o n).length = 8 := by
  cases o <;> rfl

/-- The length field's value for every message the machine can hold (41_padding_sequencing.md R149). -/
theorem bitLength_toNat {n : Nat} (h : n < 2 ^ 61) : (bitLength n).toNat = 8 * n := by
  rw [bitLength, if_pos h, BitVec.toNat_ofNat]
  exact Nat.mod_eq_of_lt (by omega)

theorem pad_length (o : ByteOrder) (msg : List Byte) :
    (pad o msg).length = msg.length + 1 + zeroCount msg.length + 8 := by
  simp [pad]; omega

/-- A block below the block count is whole. -/
theorem blockAt_length {p : List Byte} {blk : Nat} (h : blk < nblk p) : (blockAt p blk).length = 64 := by
  unfold nblk at h
  simp only [blockAt, memRead, List.length_take, List.length_drop]
  omega

/-- Over blocks of 64 bytes the block loop is the plain fold: its invariant check does not fire. -/
theorem compressAll_eq_foldl {H : Type} (compress : H → List Byte → H) (h : H) (blocks : List (List Byte))
    (whole : ∀ b ∈ blocks, b.length = 64) : compressAll compress h blocks = some (blocks.foldl compress h) := by
  induction blocks generalizing h with
  | nil => rfl
  | cons b rest ih =>
    simp only [compressAll, whole b (by simp), if_true, List.foldl_cons]
    exact ih _ fun c hc => whole c (by simp [hc])

/-- The block loop over the blocks of any byte sequence (R146). -/
theorem compressAll_blocksOf {H : Type} (compress : H → List Byte → H) (h : H) (p : List Byte) :
    compressAll compress h (blocksOf p) = some ((blocksOf p).foldl compress h) := by
  refine compressAll_eq_foldl compress h _ fun b hb => ?_
  obtain ⟨blk, hblk, rfl⟩ := List.mem_map.1 hb
  exact blockAt_length (List.mem_range.1 hblk)

@[simp] theorem blocksOf_length (p : List Byte) : (blocksOf p).length = nblk p := by simp [blocksOf]

/-- One more block of the fold. -/
theorem blocksOf_take_succ {p : List Byte} {blk : Nat} (h : blk < nblk p) :
    (blocksOf p).take (blk + 1) = (blocksOf p).take blk ++ [blockAt p blk] := by
  rw [List.take_add_one]
  simp [blocksOf, h]

/-- An append keeps the buffer within the capacity when the sum fits (20_memory.md R66). -/
theorem bufAppend_wf {cap : Nat} {buf payload : List Byte} (h : buf.length + payload.length ≤ cap) :
    bufWf cap (bufAppend buf payload) := by
  simpa [bufWf, bufAppend] using h

/-- Bytes already in the buffer stay as they were (20_memory.md R66). -/
theorem bufRead_bufAppend_old {buf payload : List Byte} {i : Nat} (h : i < buf.length) :
    bufRead (bufAppend buf payload) i = bufRead buf i := by
  simp [bufRead, bufAppend, List.getElem?_append_left h]

/-- The payload's bytes follow the bytes already there (20_memory.md R66). -/
theorem bufRead_bufAppend_new (buf payload : List Byte) (j : Nat) :
    bufRead (bufAppend buf payload) (buf.length + j) = payload[j]? := by
  simp [bufRead, bufAppend, List.getElem?_append_right (Nat.le_add_right _ _)]

/-- The empty buffer fits every capacity. -/
theorem bufWf_nil (cap : Nat) : bufWf cap [] := Nat.zero_le cap

end Sys2Proof.Machine
end

