-- ==== Sys2Proof/Laws/State.lean ====
section
/-! SUPPORT. Every field after every named update of the state, so that no proof unfolds a record update. -/

namespace Sys2Proof.Machine

/-! ## The machine -/

@[simp] theorem State.answerMd5_md5 (s : State) (a : Answer Md5Engine) : (s.answerMd5 a).md5 = a.engine := rfl
@[simp] theorem State.answerMd5_sha1 (s : State) (a : Answer Md5Engine) : (s.answerMd5 a).sha1 = s.sha1 := rfl
@[simp] theorem State.answerMd5_bufCap (s : State) (a : Answer Md5Engine) : (s.answerMd5 a).bufCap = s.bufCap := rfl
@[simp] theorem State.answerMd5_inbox (s : State) (a : Answer Md5Engine) : (s.answerMd5 a).inbox = s.inbox := rfl
@[simp] theorem State.answerMd5_outbox (s : State) (a : Answer Md5Engine) : (s.answerMd5 a).outbox = s.outbox ++ [a.resp] := rfl
@[simp] theorem State.answerMd5_freeCount (s : State) (a : Answer Md5Engine) : (s.answerMd5 a).freeCount = s.freeCount := rfl

@[simp] theorem State.answerSha1_md5 (s : State) (a : Answer Sha1Engine) : (s.answerSha1 a).md5 = s.md5 := rfl
@[simp] theorem State.answerSha1_sha1 (s : State) (a : Answer Sha1Engine) : (s.answerSha1 a).sha1 = a.engine := rfl
@[simp] theorem State.answerSha1_bufCap (s : State) (a : Answer Sha1Engine) : (s.answerSha1 a).bufCap = s.bufCap := rfl
@[simp] theorem State.answerSha1_inbox (s : State) (a : Answer Sha1Engine) : (s.answerSha1 a).inbox = s.inbox := rfl
@[simp] theorem State.answerSha1_outbox (s : State) (a : Answer Sha1Engine) : (s.answerSha1 a).outbox = s.outbox ++ [a.resp] := rfl
@[simp] theorem State.answerSha1_freeCount (s : State) (a : Answer Sha1Engine) : (s.answerSha1 a).freeCount = s.freeCount := rfl

@[simp] theorem State.setMd5Run_md5 (s : State) (r : Option Md5Run) : (s.setMd5Run r).md5 = { s.md5 with run := r } := rfl
@[simp] theorem State.setMd5Run_sha1 (s : State) (r : Option Md5Run) : (s.setMd5Run r).sha1 = s.sha1 := rfl
@[simp] theorem State.setMd5Run_bufCap (s : State) (r : Option Md5Run) : (s.setMd5Run r).bufCap = s.bufCap := rfl
@[simp] theorem State.setMd5Run_inbox (s : State) (r : Option Md5Run) : (s.setMd5Run r).inbox = s.inbox := rfl
@[simp] theorem State.setMd5Run_outbox (s : State) (r : Option Md5Run) : (s.setMd5Run r).outbox = s.outbox := rfl
@[simp] theorem State.setMd5Run_freeCount (s : State) (r : Option Md5Run) : (s.setMd5Run r).freeCount = s.freeCount := rfl

@[simp] theorem State.setSha1Run_md5 (s : State) (r : Option Sha1Run) : (s.setSha1Run r).md5 = s.md5 := rfl
@[simp] theorem State.setSha1Run_sha1 (s : State) (r : Option Sha1Run) : (s.setSha1Run r).sha1 = { s.sha1 with run := r } := rfl
@[simp] theorem State.setSha1Run_bufCap (s : State) (r : Option Sha1Run) : (s.setSha1Run r).bufCap = s.bufCap := rfl
@[simp] theorem State.setSha1Run_inbox (s : State) (r : Option Sha1Run) : (s.setSha1Run r).inbox = s.inbox := rfl
@[simp] theorem State.setSha1Run_outbox (s : State) (r : Option Sha1Run) : (s.setSha1Run r).outbox = s.outbox := rfl
@[simp] theorem State.setSha1Run_freeCount (s : State) (r : Option Sha1Run) : (s.setSha1Run r).freeCount = s.freeCount := rfl

@[simp] theorem State.applyReset_md5 (s : State) : (s.applyReset).md5 = Engine.afterReset (unsetMd5H s.freeCount) := rfl
@[simp] theorem State.applyReset_sha1 (s : State) : (s.applyReset).sha1 = Engine.afterReset (unsetSha1H (s.freeCount + 4)) := rfl
@[simp] theorem State.applyReset_bufCap (s : State) : (s.applyReset).bufCap = s.bufCap := rfl
@[simp] theorem State.applyReset_inbox (s : State) : (s.applyReset).inbox = s.inbox := rfl
@[simp] theorem State.applyReset_outbox (s : State) : (s.applyReset).outbox = s.outbox := rfl
@[simp] theorem State.applyReset_freeCount (s : State) : (s.applyReset).freeCount = s.freeCount + 9 := rfl

/-! ## An engine -/

section
variable {H R : Type}

@[simp] theorem Engine.raiseFault_h (e : Engine H R) (c : Cause) : (e.raiseFault c).engine.h = e.h := rfl
@[simp] theorem Engine.raiseFault_buf (e : Engine H R) (c : Cause) : (e.raiseFault c).engine.buf = e.buf := rfl
@[simp] theorem Engine.raiseFault_phase (e : Engine H R) (c : Cause) : (e.raiseFault c).engine.phase = e.phase := rfl
@[simp] theorem Engine.raiseFault_fault (e : Engine H R) (c : Cause) : (e.raiseFault c).engine.fault = true := rfl
@[simp] theorem Engine.raiseFault_cause (e : Engine H R) (c : Cause) : (e.raiseFault c).engine.cause = c := rfl
@[simp] theorem Engine.raiseFault_run (e : Engine H R) (c : Cause) : (e.raiseFault c).engine.run = e.run := rfl
@[simp] theorem Engine.raiseFault_ok (e : Engine H R) (c : Cause) : (e.raiseFault c).ok = false := rfl
@[simp] theorem Engine.raiseFault_data (e : Engine H R) (c : Cause) : (e.raiseFault c).data = [] := rfl

@[simp] theorem Engine.refuse_h (e : Engine H R) : (e.refuse).engine.h = e.h := rfl
@[simp] theorem Engine.refuse_buf (e : Engine H R) : (e.refuse).engine.buf = e.buf := rfl
@[simp] theorem Engine.refuse_phase (e : Engine H R) : (e.refuse).engine.phase = e.phase := rfl
@[simp] theorem Engine.refuse_fault (e : Engine H R) : (e.refuse).engine.fault = e.fault := rfl
@[simp] theorem Engine.refuse_cause (e : Engine H R) : (e.refuse).engine.cause = e.cause := rfl
@[simp] theorem Engine.refuse_run (e : Engine H R) : (e.refuse).engine.run = e.run := rfl
@[simp] theorem Engine.refuse_ok (e : Engine H R) : (e.refuse).ok = false := rfl
@[simp] theorem Engine.refuse_data (e : Engine H R) : (e.refuse).data = [] := rfl

@[simp] theorem Engine.createBody_h (iv : H) (e : Engine H R) : (Engine.createBody iv e).engine.h = iv := rfl
@[simp] theorem Engine.createBody_buf (iv : H) (e : Engine H R) : (Engine.createBody iv e).engine.buf = [] := rfl
@[simp] theorem Engine.createBody_phase (iv : H) (e : Engine H R) : (Engine.createBody iv e).engine.phase = .active := rfl
@[simp] theorem Engine.createBody_fault (iv : H) (e : Engine H R) : (Engine.createBody iv e).engine.fault = e.fault := rfl
@[simp] theorem Engine.createBody_cause (iv : H) (e : Engine H R) : (Engine.createBody iv e).engine.cause = e.cause := rfl
@[simp] theorem Engine.createBody_run (iv : H) (e : Engine H R) : (Engine.createBody iv e).engine.run = none := rfl
@[simp] theorem Engine.createBody_ok (iv : H) (e : Engine H R) : (Engine.createBody iv e).ok = true := rfl
@[simp] theorem Engine.createBody_data (iv : H) (e : Engine H R) : (Engine.createBody iv e).data = [] := rfl

@[simp] theorem Engine.finish_h (h : H) (d : List Byte) (e : Engine H R) : (Engine.finish h d e).engine.h = h := rfl
@[simp] theorem Engine.finish_buf (h : H) (d : List Byte) (e : Engine H R) : (Engine.finish h d e).engine.buf = [] := rfl
@[simp] theorem Engine.finish_phase (h : H) (d : List Byte) (e : Engine H R) : (Engine.finish h d e).engine.phase = .done := rfl
@[simp] theorem Engine.finish_fault (h : H) (d : List Byte) (e : Engine H R) : (Engine.finish h d e).engine.fault = e.fault := rfl
@[simp] theorem Engine.finish_cause (h : H) (d : List Byte) (e : Engine H R) : (Engine.finish h d e).engine.cause = e.cause := rfl
@[simp] theorem Engine.finish_run (h : H) (d : List Byte) (e : Engine H R) : (Engine.finish h d e).engine.run = none := rfl
@[simp] theorem Engine.finish_ok (h : H) (d : List Byte) (e : Engine H R) : (Engine.finish h d e).ok = true := rfl
@[simp] theorem Engine.finish_data (h : H) (d : List Byte) (e : Engine H R) : (Engine.finish h d e).data = d := rfl

@[simp] theorem Engine.renderBody_h (hex : H → List Byte) (e : Engine H R) : (Engine.renderBody hex e).engine.h = e.h := rfl
@[simp] theorem Engine.renderBody_buf (hex : H → List Byte) (e : Engine H R) : (Engine.renderBody hex e).engine.buf = e.buf := rfl
@[simp] theorem Engine.renderBody_phase (hex : H → List Byte) (e : Engine H R) : (Engine.renderBody hex e).engine.phase = e.phase := rfl
@[simp] theorem Engine.renderBody_fault (hex : H → List Byte) (e : Engine H R) : (Engine.renderBody hex e).engine.fault = e.fault := rfl
@[simp] theorem Engine.renderBody_cause (hex : H → List Byte) (e : Engine H R) : (Engine.renderBody hex e).engine.cause = e.cause := rfl
@[simp] theorem Engine.renderBody_run (hex : H → List Byte) (e : Engine H R) : (Engine.renderBody hex e).engine.run = e.run := rfl
@[simp] theorem Engine.renderBody_ok (hex : H → List Byte) (e : Engine H R) : (Engine.renderBody hex e).ok = true := rfl
@[simp] theorem Engine.renderBody_data (hex : H → List Byte) (e : Engine H R) : (Engine.renderBody hex e).data = hex e.h := rfl

@[simp] theorem Engine.afterReset_h (h : H) : (Engine.afterReset h : Engine H R).h = h := rfl
@[simp] theorem Engine.afterReset_buf (h : H) : (Engine.afterReset h : Engine H R).buf = [] := rfl
@[simp] theorem Engine.afterReset_phase (h : H) : (Engine.afterReset h : Engine H R).phase = .idle := rfl
@[simp] theorem Engine.afterReset_fault (h : H) : (Engine.afterReset h : Engine H R).fault = false := rfl
@[simp] theorem Engine.afterReset_cause (h : H) : (Engine.afterReset h : Engine H R).cause = .none := rfl
@[simp] theorem Engine.afterReset_run (h : H) : (Engine.afterReset h : Engine H R).run = none := rfl

@[simp] theorem Answer.resp_status (a : Answer (Engine H R)) : a.resp.status = a.engine.status := rfl
@[simp] theorem Answer.resp_ok (a : Answer (Engine H R)) : a.resp.ok = a.ok := rfl
@[simp] theorem Answer.resp_data (a : Answer (Engine H R)) : a.resp.data = a.data := rfl

end

end Sys2Proof.Machine
end

