-- ==== Sys2Proof/Laws/Ops.lean ====
section
/-! SUPPORT. One lemma for each shared operation that says everything it can do. -/

namespace Sys2Proof.Machine

section
variable {H R : Type}

/-! ## Commands -/

/-- A faulted engine refuses (60_exceptions.md R259). -/
@[simp] theorem Engine.command_faulted {op : Op} {body : Engine H R → Answer (Engine H R)} {e : Engine H R}
    (h : e.fault = true) : e.command op body = e.refuse := by
  simp [Engine.command, h]

/-- An operation its phase forbids raises the phase's cause (40_commands.md R118). -/
theorem Engine.command_phaseFault {op : Op} {body : Engine H R → Answer (Engine H R)} {e : Engine H R} {c : Cause}
    (h : e.fault = false) (hp : phaseFault op e.phase = some c) : e.command op body = e.raiseFault c := by
  simp [Engine.command, h, hp]

/-- An operation its phase allows runs its body (40_commands.md R118). -/
theorem Engine.command_runs {op : Op} {body : Engine H R → Answer (Engine H R)} {e : Engine H R}
    (h : e.fault = false) (hp : phaseFault op e.phase = none) : e.command op body = body e := by
  simp [Engine.command, h, hp]

/-- Everything a command can do to its engine. -/
theorem Engine.command_cases (op : Op) (body : Engine H R → Answer (Engine H R)) (e : Engine H R) :
    (e.fault = true ∧ e.command op body = e.refuse) ∨
      (∃ c, e.fault = false ∧ phaseFault op e.phase = some c ∧ e.command op body = e.raiseFault c) ∨
      (e.fault = false ∧ phaseFault op e.phase = none ∧ e.command op body = body e) := by
  cases h : e.fault
  · cases hp : phaseFault op e.phase with
    | none => exact .inr (.inr ⟨rfl, rfl, Engine.command_runs h hp⟩)
    | some c => exact .inr (.inl ⟨c, rfl, rfl, Engine.command_phaseFault h hp⟩)
  · exact .inl ⟨rfl, Engine.command_faulted h⟩

/-- Everything a command word with nonzero reserved bits can do (60_exceptions.md R252). -/
theorem Engine.illegal_cases (e : Engine H R) :
    (e.fault = true ∧ e.illegal = e.refuse) ∨ (e.fault = false ∧ e.illegal = e.raiseFault .illegalCmd) := by
  cases h : e.fault <;> simp [Engine.illegal, h]

/-- Everything the body of APPEND can do (60_exceptions.md R256). -/
theorem Engine.appendBody_cases (cap : Nat) (p : List Byte) (e : Engine H R) :
    (cap < e.buf.length + p.length ∧ Engine.appendBody cap p e = e.raiseFault .capacity) ∨
      (e.buf.length + p.length ≤ cap ∧
        Engine.appendBody cap p e = ⟨{ e with buf := bufAppend e.buf p }, true, []⟩) := by
  by_cases h : cap < e.buf.length + p.length
  · exact .inl ⟨h, by simp [Engine.appendBody, h]⟩
  · exact .inr ⟨by omega, by simp [Engine.appendBody, h]⟩

/-- The body of FINALIZE is its end on the folded blocks; the invariant check does not fire (60_exceptions.md R257). -/
theorem Engine.finalizeBody_eq (o : ByteOrder) (compress : H → List Byte → H) (digest : H → List Byte)
    (e : Engine H R) :
    Engine.finalizeBody o compress digest e =
      e.finish ((blocksOf (pad o e.buf)).foldl compress e.h)
        (digest ((blocksOf (pad o e.buf)).foldl compress e.h)) := by
  simp [Engine.finalizeBody, compressAll_blocksOf]

end

/-! ## Micro-operations -/

/-- Everything an MD5 step micro-operation can do. -/
theorem md5StepOp_cases (i : Fin 64) (s : State) :
    (s.md5.run = none ∧ md5StepOp i s = .fault .stepOutsideFinalize) ∨
      (∃ r, s.md5.run = some r ∧ ∃ h : i.val + 1 < 64, md5StepOp i s =
        .next (s.setMd5Run (some { r with work := md5Step r.x r.work i, step := ⟨i.val + 1, h⟩ }))) ∨
      (∃ r, s.md5.run = some r ∧ ¬ i.val + 1 < 64 ∧
        md5StepOp i s = .next (s.leaveMd5Block { r with work := md5Step r.x r.work i })) := by
  unfold md5StepOp
  split
  · exact .inl ⟨by assumption, rfl⟩
  · rename_i r hr
    by_cases h : i.val + 1 < 64
    · exact .inr (.inl ⟨r, hr, h, by simp [h]⟩)
    · exact .inr (.inr ⟨r, hr, h, by simp [h]⟩)

/-- Everything a SHA-1 step micro-operation can do. -/
theorem sha1StepOp_cases (t : Fin 80) (s : State) :
    (s.sha1.run = none ∧ sha1StepOp t s = .fault .stepOutsideFinalize) ∨
      (∃ r, s.sha1.run = some r ∧ ∃ h : t.val + 1 < 80, sha1StepOp t s =
        .next (s.setSha1Run (some { r with
          work := sha1Step r.w r.work t, temp := sha1Temp r.w r.work t, step := ⟨t.val + 1, h⟩ }))) ∨
      (∃ r, s.sha1.run = some r ∧ ¬ t.val + 1 < 80 ∧ sha1StepOp t s =
        .next (s.leaveSha1Block { r with
          work := sha1Step r.w r.work t, temp := sha1Temp r.w r.work t })) := by
  unfold sha1StepOp
  split
  · exact .inl ⟨by assumption, rfl⟩
  · rename_i r hr
    by_cases h : t.val + 1 < 80
    · exact .inr (.inl ⟨r, hr, h, by simp [h, sha1Step]⟩)
    · exact .inr (.inr ⟨r, hr, h, by simp [h, sha1Step]⟩)

/-- Everything that can happen on leaving an MD5 block. -/
theorem State.leaveMd5Block_cases (s : State) (r : Md5Run) :
    (r.blk + 1 < nblk r.pmsg ∧ s.leaveMd5Block r =
      { s with md5 := { s.md5 with
          h := md5Feed s.md5.h r.work,
          run := some (md5EnterBlock (md5Feed s.md5.h r.work) r.pmsg (r.blk + 1)) } }) ∨
      (¬ r.blk + 1 < nblk r.pmsg ∧ s.leaveMd5Block r =
        s.answerMd5 (s.md5.finish (md5Feed s.md5.h r.work) (md5DigestBytes (md5Feed s.md5.h r.work)))) := by
  by_cases h : r.blk + 1 < nblk r.pmsg
  · exact .inl ⟨h, by simp [State.leaveMd5Block, h]⟩
  · exact .inr ⟨h, by simp [State.leaveMd5Block, h]⟩

/-- Everything that can happen on leaving a SHA-1 block. -/
theorem State.leaveSha1Block_cases (s : State) (r : Sha1Run) :
    (r.blk + 1 < nblk r.pmsg ∧ s.leaveSha1Block r =
      { s with sha1 := { s.sha1 with
          h := sha1Feed s.sha1.h r.work,
          run := some (sha1EnterBlock (sha1Feed s.sha1.h r.work) r.pmsg (r.blk + 1)) } }) ∨
      (¬ r.blk + 1 < nblk r.pmsg ∧ s.leaveSha1Block r =
        s.answerSha1 (s.sha1.finish (sha1Feed s.sha1.h r.work) (sha1DigestBytes (sha1Feed s.sha1.h r.work)))) := by
  by_cases h : r.blk + 1 < nblk r.pmsg
  · exact .inl ⟨h, by simp [State.leaveSha1Block, h]⟩
  · exact .inr ⟨h, by simp [State.leaveSha1Block, h]⟩

/-- The micro-operation of MD5 index `i` executes the step with index `i`. -/
theorem exec_md5StepInstr (i : Fin 64) (s : State) : exec (md5StepInstr i) s = md5StepOp i s := by
  fin_cases i <;> rfl

/-- The micro-operation of SHA-1 index `t` executes the step with index `t`. -/
theorem exec_sha1StepInstr (t : Fin 80) (s : State) : exec (sha1StepInstr t) s = sha1StepOp t s := by
  fin_cases t <;> rfl

/-- The engine of a micro-operation. -/
@[simp] theorem instrAlg_md5StepInstr (i : Fin 64) : instrAlg (md5StepInstr i) = .md5 := by
  fin_cases i <;> rfl

/-- The engine of a micro-operation. -/
@[simp] theorem instrAlg_sha1StepInstr (t : Fin 80) : instrAlg (sha1StepInstr t) = .sha1 := by
  fin_cases t <;> rfl

/-- Every instruction is one of ten kinds: eight commands, each an answer of its engine, and the micro-operations of the
two sequencers. -/
theorem exec_cases (i : Instr) (s : State) :
    (i = .md5Create ∧ exec i s = .next (s.answerMd5 (s.md5.command .create (Engine.createBody md5Iv)))) ∨
      (∃ p, i = .md5Append p ∧
        exec i s = .next (s.answerMd5 (s.md5.command .append (Engine.appendBody s.bufCap.val p)))) ∨
      (i = .md5Finalize ∧ exec i s = .next (s.answerMd5
        (s.md5.command .finalize (Engine.finalizeBody .le md5Compress md5DigestBytes)))) ∨
      (i = .md5Render ∧ exec i s = .next (s.answerMd5 (s.md5.command .render (Engine.renderBody md5Hex)))) ∨
      (i = .sha1Create ∧ exec i s = .next (s.answerSha1 (s.sha1.command .create (Engine.createBody sha1Iv)))) ∨
      (∃ p, i = .sha1Append p ∧
        exec i s = .next (s.answerSha1 (s.sha1.command .append (Engine.appendBody s.bufCap.val p)))) ∨
      (i = .sha1Finalize ∧ exec i s = .next (s.answerSha1
        (s.sha1.command .finalize (Engine.finalizeBody .be sha1Compress sha1DigestBytes)))) ∨
      (i = .sha1Render ∧ exec i s = .next (s.answerSha1 (s.sha1.command .render (Engine.renderBody sha1Hex)))) ∨
      (∃ j, i = md5StepInstr j ∧ exec i s = md5StepOp j s) ∨
      (∃ t, i = sha1StepInstr t ∧ exec i s = sha1StepOp t s) := by
  cases i
  case md5Create => exact .inl ⟨rfl, rfl⟩
  case md5Append p => exact .inr (.inl ⟨p, rfl, rfl⟩)
  case md5Finalize => exact .inr (.inr (.inl ⟨rfl, rfl⟩))
  case md5Render => exact .inr (.inr (.inr (.inl ⟨rfl, rfl⟩)))
  case sha1Create => exact .inr (.inr (.inr (.inr (.inl ⟨rfl, rfl⟩))))
  case sha1Append p => exact .inr (.inr (.inr (.inr (.inr (.inl ⟨p, rfl, rfl⟩)))))
  case sha1Finalize => exact .inr (.inr (.inr (.inr (.inr (.inr (.inl ⟨rfl, rfl⟩))))))
  case sha1Render => exact .inr (.inr (.inr (.inr (.inr (.inr (.inr (.inl ⟨rfl, rfl⟩)))))))
  all_goals
    first
    | exact .inr (.inr (.inr (.inr (.inr (.inr (.inr (.inr (.inl ⟨_, rfl, rfl⟩))))))))
    | exact .inr (.inr (.inr (.inr (.inr (.inr (.inr (.inr (.inr ⟨_, rfl, rfl⟩))))))))

/-! ## One step of the machine -/

/-- Everything one step can be. -/
theorem step_cases (s : State) :
    (∃ r, s.md5.run = some r ∧ step s = md5StepOp r.step s) ∨
      (∃ r, s.md5.run = none ∧ s.sha1.run = some r ∧ step s = sha1StepOp r.step s) ∨
      (s.Quiescent ∧ s.inbox = [] ∧ step s = .next s) ∨
      (∃ rest, s.Quiescent ∧ s.inbox = .reset :: rest ∧
        step s = .next ({ s with inbox := rest } : State).applyReset) ∨
      (∃ c rest i, s.Quiescent ∧ s.inbox = .command c :: rest ∧ decodeCmd c = .ok i ∧
        step s = exec i { s with inbox := rest }) ∨
      (∃ c rest, s.Quiescent ∧ s.inbox = .command c :: rest ∧ (∃ e, decodeCmd c = .error e) ∧
        step s = .next (({ s with inbox := rest } : State).illegalCommand c.word)) := by
  cases hm : s.md5.run with
  | some r => exact .inl ⟨r, rfl, by simp [step, fetch, hm, exec_md5StepInstr]⟩
  | none =>
    cases hs : s.sha1.run with
    | some r => exact .inr (.inl ⟨r, rfl, rfl, by simp [step, fetch, hm, hs, exec_sha1StepInstr]⟩)
    | none =>
      cases hi : s.inbox with
      | nil => exact .inr (.inr (.inl ⟨⟨hm, hs⟩, rfl, by simp [step, fetch, hm, hs, hi]⟩))
      | cons ev rest =>
        cases ev with
        | reset =>
          exact .inr (.inr (.inr (.inl ⟨rest, ⟨hm, hs⟩, rfl, by simp [step, fetch, fetchEvent, hm, hs, hi]⟩)))
        | command c =>
          cases hd : decodeCmd c with
          | ok i =>
            exact .inr (.inr (.inr (.inr (.inl
              ⟨c, rest, i, ⟨hm, hs⟩, rfl, hd, by simp [step, fetch, fetchEvent, hm, hs, hi, hd]⟩))))
          | error e =>
            exact .inr (.inr (.inr (.inr (.inr
              ⟨c, rest, ⟨hm, hs⟩, rfl, ⟨e, hd⟩, by simp [step, fetch, fetchEvent, hm, hs, hi, hd]⟩))))

/-- What decodes from a command is one of the eight host commands, and its outcome is an answer of one engine. -/
theorem decodeCmd_cases {c : Cmd} {i : Instr} (h : decodeCmd c = .ok i) :
    i = commandInstr (algOfWord c.word) (opOfWord c.word) c.payload := by
  unfold decodeCmd at h
  split at h
  · simpa using h.symm
  · simp at h

/-- The reserved bits are zero exactly in the eight legal words (30_encoding.md R83, R84). -/
theorem rsv_eq_zero_iff : ∀ w : Byte, w.extractLsb' 3 5 = 0 ↔ w.toNat < 8 := by decide

/-- The decoder's answer to a word with nonzero reserved bits (30_encoding.md R84). -/
theorem decodeCmd_illegal {w : Byte} (p : List Byte) (h : 8 ≤ w.toNat) :
    decodeCmd ⟨w, p⟩ = .error (.illegalCmd w) := by
  have hr : ¬ Cmd.rsv ⟨w, p⟩ = 0 := fun hz => absurd ((rsv_eq_zero_iff w).1 hz) (by omega)
  rw [decodeCmd, if_neg hr]

/-- The step that takes an illegal command word (60_exceptions.md R252). -/
theorem step_illegal {s : State} {w : Byte} {p : List Byte} {rest : List HostEvent} (h : s.Quiescent)
    (hi : s.inbox = .command ⟨w, p⟩ :: rest) (hw : 8 ≤ w.toNat) :
    step s = .next (({ s with inbox := rest } : State).illegalCommand w) := by
  simp [step, fetch, h.1, h.2, hi, fetchEvent, decodeCmd_illegal p hw]

/-- Bit 2 clear: the MD5 engine (30_encoding.md R81). -/
theorem algOfWord_md5 {w : Byte} (h : w.getLsbD 2 = false) : algOfWord w = .md5 := by
  simp only [algOfWord, h, Bool.false_eq_true, if_false]

/-- Bit 2 set: the SHA-1 engine (30_encoding.md R81). -/
theorem algOfWord_sha1 {w : Byte} (h : w.getLsbD 2 = true) : algOfWord w = .sha1 := by
  simp only [algOfWord, h, if_true]

/-- Both buffers fit after reset, for every capacity (10_state.md R26, R37). -/
theorem resetWith_bufWf (cap : Fin (2 ^ 61)) :
    bufWf cap.val (State.resetWith cap).md5.buf ∧ bufWf cap.val (State.resetWith cap).sha1.buf :=
  ⟨bufWf_nil _, bufWf_nil _⟩

/-- Every command keeps its engine's buffer within the capacity, if its body does (20_memory.md R66). -/
theorem Engine.command_bufWf {H R : Type} {op : Op} {body : Engine H R → Answer (Engine H R)} {e : Engine H R}
    {cap : Nat} (h : bufWf cap e.buf) (hb : bufWf cap (body e).engine.buf) :
    bufWf cap (e.command op body).engine.buf := by
  obtain ⟨-, he⟩ | ⟨c, -, -, he⟩ | ⟨-, -, he⟩ := Engine.command_cases op body e <;> rw [he] <;> assumption

/-- The body of APPEND keeps the buffer within the capacity (20_memory.md R66). -/
theorem Engine.appendBody_bufWf {H R : Type} {cap : Nat} {e : Engine H R} (p : List Byte) (h : bufWf cap e.buf) :
    bufWf cap (Engine.appendBody cap p e).engine.buf := by
  obtain ⟨-, he⟩ | ⟨hl, he⟩ := Engine.appendBody_cases cap p e <;> rw [he]
  · exact h
  · exact bufAppend_wf hl

end Sys2Proof.Machine
end

