-- ==== Sys2Proof/Laws/PerInstr.lean ====
section
/-! SUPPORT. Statements made of every instruction, one lemma per constructor. -/

namespace Sys2Proof.Laws

/-- The instruction encodes to a legal code word, which decodes to it again (30_encoding.md R83, R87, R88). -/
def Encoding.Statement (i : Instr) : Prop := (encode i).wf = true ∧ decode (encode i) = .ok i

theorem Encoding.md5Create : Encoding.Statement .md5Create := ⟨rfl, rfl⟩
theorem Encoding.md5Append (payload : List Byte) : Encoding.Statement (.md5Append payload) :=
  ⟨rfl, by simp [decode, encode, decodeCmd, Cmd.rsv, algOfWord, opOfWord, commandInstr]⟩
theorem Encoding.md5Finalize : Encoding.Statement .md5Finalize := ⟨rfl, rfl⟩
theorem Encoding.md5Render : Encoding.Statement .md5Render := ⟨rfl, rfl⟩
theorem Encoding.sha1Create : Encoding.Statement .sha1Create := ⟨rfl, rfl⟩
theorem Encoding.sha1Append (payload : List Byte) : Encoding.Statement (.sha1Append payload) :=
  ⟨rfl, by simp [decode, encode, decodeCmd, Cmd.rsv, algOfWord, opOfWord, commandInstr]⟩
theorem Encoding.sha1Finalize : Encoding.Statement .sha1Finalize := ⟨rfl, rfl⟩
theorem Encoding.sha1Render : Encoding.Statement .sha1Render := ⟨rfl, rfl⟩
theorem Encoding.md5Step0 : Encoding.Statement .md5Step0 := ⟨rfl, rfl⟩
theorem Encoding.md5Step1 : Encoding.Statement .md5Step1 := ⟨rfl, rfl⟩
theorem Encoding.md5Step2 : Encoding.Statement .md5Step2 := ⟨rfl, rfl⟩
theorem Encoding.md5Step3 : Encoding.Statement .md5Step3 := ⟨rfl, rfl⟩
theorem Encoding.md5Step4 : Encoding.Statement .md5Step4 := ⟨rfl, rfl⟩
theorem Encoding.md5Step5 : Encoding.Statement .md5Step5 := ⟨rfl, rfl⟩
theorem Encoding.md5Step6 : Encoding.Statement .md5Step6 := ⟨rfl, rfl⟩
theorem Encoding.md5Step7 : Encoding.Statement .md5Step7 := ⟨rfl, rfl⟩
theorem Encoding.md5Step8 : Encoding.Statement .md5Step8 := ⟨rfl, rfl⟩
theorem Encoding.md5Step9 : Encoding.Statement .md5Step9 := ⟨rfl, rfl⟩
theorem Encoding.md5Step10 : Encoding.Statement .md5Step10 := ⟨rfl, rfl⟩
theorem Encoding.md5Step11 : Encoding.Statement .md5Step11 := ⟨rfl, rfl⟩
theorem Encoding.md5Step12 : Encoding.Statement .md5Step12 := ⟨rfl, rfl⟩
theorem Encoding.md5Step13 : Encoding.Statement .md5Step13 := ⟨rfl, rfl⟩
theorem Encoding.md5Step14 : Encoding.Statement .md5Step14 := ⟨rfl, rfl⟩
theorem Encoding.md5Step15 : Encoding.Statement .md5Step15 := ⟨rfl, rfl⟩
theorem Encoding.md5Step16 : Encoding.Statement .md5Step16 := ⟨rfl, rfl⟩
theorem Encoding.md5Step17 : Encoding.Statement .md5Step17 := ⟨rfl, rfl⟩
theorem Encoding.md5Step18 : Encoding.Statement .md5Step18 := ⟨rfl, rfl⟩
theorem Encoding.md5Step19 : Encoding.Statement .md5Step19 := ⟨rfl, rfl⟩
theorem Encoding.md5Step20 : Encoding.Statement .md5Step20 := ⟨rfl, rfl⟩
theorem Encoding.md5Step21 : Encoding.Statement .md5Step21 := ⟨rfl, rfl⟩
theorem Encoding.md5Step22 : Encoding.Statement .md5Step22 := ⟨rfl, rfl⟩
theorem Encoding.md5Step23 : Encoding.Statement .md5Step23 := ⟨rfl, rfl⟩
theorem Encoding.md5Step24 : Encoding.Statement .md5Step24 := ⟨rfl, rfl⟩
theorem Encoding.md5Step25 : Encoding.Statement .md5Step25 := ⟨rfl, rfl⟩
theorem Encoding.md5Step26 : Encoding.Statement .md5Step26 := ⟨rfl, rfl⟩
theorem Encoding.md5Step27 : Encoding.Statement .md5Step27 := ⟨rfl, rfl⟩
theorem Encoding.md5Step28 : Encoding.Statement .md5Step28 := ⟨rfl, rfl⟩
theorem Encoding.md5Step29 : Encoding.Statement .md5Step29 := ⟨rfl, rfl⟩
theorem Encoding.md5Step30 : Encoding.Statement .md5Step30 := ⟨rfl, rfl⟩
theorem Encoding.md5Step31 : Encoding.Statement .md5Step31 := ⟨rfl, rfl⟩
theorem Encoding.md5Step32 : Encoding.Statement .md5Step32 := ⟨rfl, rfl⟩
theorem Encoding.md5Step33 : Encoding.Statement .md5Step33 := ⟨rfl, rfl⟩
theorem Encoding.md5Step34 : Encoding.Statement .md5Step34 := ⟨rfl, rfl⟩
theorem Encoding.md5Step35 : Encoding.Statement .md5Step35 := ⟨rfl, rfl⟩
theorem Encoding.md5Step36 : Encoding.Statement .md5Step36 := ⟨rfl, rfl⟩
theorem Encoding.md5Step37 : Encoding.Statement .md5Step37 := ⟨rfl, rfl⟩
theorem Encoding.md5Step38 : Encoding.Statement .md5Step38 := ⟨rfl, rfl⟩
theorem Encoding.md5Step39 : Encoding.Statement .md5Step39 := ⟨rfl, rfl⟩
theorem Encoding.md5Step40 : Encoding.Statement .md5Step40 := ⟨rfl, rfl⟩
theorem Encoding.md5Step41 : Encoding.Statement .md5Step41 := ⟨rfl, rfl⟩
theorem Encoding.md5Step42 : Encoding.Statement .md5Step42 := ⟨rfl, rfl⟩
theorem Encoding.md5Step43 : Encoding.Statement .md5Step43 := ⟨rfl, rfl⟩
theorem Encoding.md5Step44 : Encoding.Statement .md5Step44 := ⟨rfl, rfl⟩
theorem Encoding.md5Step45 : Encoding.Statement .md5Step45 := ⟨rfl, rfl⟩
theorem Encoding.md5Step46 : Encoding.Statement .md5Step46 := ⟨rfl, rfl⟩
theorem Encoding.md5Step47 : Encoding.Statement .md5Step47 := ⟨rfl, rfl⟩
theorem Encoding.md5Step48 : Encoding.Statement .md5Step48 := ⟨rfl, rfl⟩
theorem Encoding.md5Step49 : Encoding.Statement .md5Step49 := ⟨rfl, rfl⟩
theorem Encoding.md5Step50 : Encoding.Statement .md5Step50 := ⟨rfl, rfl⟩
theorem Encoding.md5Step51 : Encoding.Statement .md5Step51 := ⟨rfl, rfl⟩
theorem Encoding.md5Step52 : Encoding.Statement .md5Step52 := ⟨rfl, rfl⟩
theorem Encoding.md5Step53 : Encoding.Statement .md5Step53 := ⟨rfl, rfl⟩
theorem Encoding.md5Step54 : Encoding.Statement .md5Step54 := ⟨rfl, rfl⟩
theorem Encoding.md5Step55 : Encoding.Statement .md5Step55 := ⟨rfl, rfl⟩
theorem Encoding.md5Step56 : Encoding.Statement .md5Step56 := ⟨rfl, rfl⟩
theorem Encoding.md5Step57 : Encoding.Statement .md5Step57 := ⟨rfl, rfl⟩
theorem Encoding.md5Step58 : Encoding.Statement .md5Step58 := ⟨rfl, rfl⟩
theorem Encoding.md5Step59 : Encoding.Statement .md5Step59 := ⟨rfl, rfl⟩
theorem Encoding.md5Step60 : Encoding.Statement .md5Step60 := ⟨rfl, rfl⟩
theorem Encoding.md5Step61 : Encoding.Statement .md5Step61 := ⟨rfl, rfl⟩
theorem Encoding.md5Step62 : Encoding.Statement .md5Step62 := ⟨rfl, rfl⟩
theorem Encoding.md5Step63 : Encoding.Statement .md5Step63 := ⟨rfl, rfl⟩
theorem Encoding.sha1Step0 : Encoding.Statement .sha1Step0 := ⟨rfl, rfl⟩
theorem Encoding.sha1Step1 : Encoding.Statement .sha1Step1 := ⟨rfl, rfl⟩
theorem Encoding.sha1Step2 : Encoding.Statement .sha1Step2 := ⟨rfl, rfl⟩
theorem Encoding.sha1Step3 : Encoding.Statement .sha1Step3 := ⟨rfl, rfl⟩
theorem Encoding.sha1Step4 : Encoding.Statement .sha1Step4 := ⟨rfl, rfl⟩
theorem Encoding.sha1Step5 : Encoding.Statement .sha1Step5 := ⟨rfl, rfl⟩
theorem Encoding.sha1Step6 : Encoding.Statement .sha1Step6 := ⟨rfl, rfl⟩
theorem Encoding.sha1Step7 : Encoding.Statement .sha1Step7 := ⟨rfl, rfl⟩
theorem Encoding.sha1Step8 : Encoding.Statement .sha1Step8 := ⟨rfl, rfl⟩
theorem Encoding.sha1Step9 : Encoding.Statement .sha1Step9 := ⟨rfl, rfl⟩
theorem Encoding.sha1Step10 : Encoding.Statement .sha1Step10 := ⟨rfl, rfl⟩
theorem Encoding.sha1Step11 : Encoding.Statement .sha1Step11 := ⟨rfl, rfl⟩
theorem Encoding.sha1Step12 : Encoding.Statement .sha1Step12 := ⟨rfl, rfl⟩
theorem Encoding.sha1Step13 : Encoding.Statement .sha1Step13 := ⟨rfl, rfl⟩
theorem Encoding.sha1Step14 : Encoding.Statement .sha1Step14 := ⟨rfl, rfl⟩
theorem Encoding.sha1Step15 : Encoding.Statement .sha1Step15 := ⟨rfl, rfl⟩
theorem Encoding.sha1Step16 : Encoding.Statement .sha1Step16 := ⟨rfl, rfl⟩
theorem Encoding.sha1Step17 : Encoding.Statement .sha1Step17 := ⟨rfl, rfl⟩
theorem Encoding.sha1Step18 : Encoding.Statement .sha1Step18 := ⟨rfl, rfl⟩
theorem Encoding.sha1Step19 : Encoding.Statement .sha1Step19 := ⟨rfl, rfl⟩
theorem Encoding.sha1Step20 : Encoding.Statement .sha1Step20 := ⟨rfl, rfl⟩
theorem Encoding.sha1Step21 : Encoding.Statement .sha1Step21 := ⟨rfl, rfl⟩
theorem Encoding.sha1Step22 : Encoding.Statement .sha1Step22 := ⟨rfl, rfl⟩
theorem Encoding.sha1Step23 : Encoding.Statement .sha1Step23 := ⟨rfl, rfl⟩
theorem Encoding.sha1Step24 : Encoding.Statement .sha1Step24 := ⟨rfl, rfl⟩
theorem Encoding.sha1Step25 : Encoding.Statement .sha1Step25 := ⟨rfl, rfl⟩
theorem Encoding.sha1Step26 : Encoding.Statement .sha1Step26 := ⟨rfl, rfl⟩
theorem Encoding.sha1Step27 : Encoding.Statement .sha1Step27 := ⟨rfl, rfl⟩
theorem Encoding.sha1Step28 : Encoding.Statement .sha1Step28 := ⟨rfl, rfl⟩
theorem Encoding.sha1Step29 : Encoding.Statement .sha1Step29 := ⟨rfl, rfl⟩
theorem Encoding.sha1Step30 : Encoding.Statement .sha1Step30 := ⟨rfl, rfl⟩
theorem Encoding.sha1Step31 : Encoding.Statement .sha1Step31 := ⟨rfl, rfl⟩
theorem Encoding.sha1Step32 : Encoding.Statement .sha1Step32 := ⟨rfl, rfl⟩
theorem Encoding.sha1Step33 : Encoding.Statement .sha1Step33 := ⟨rfl, rfl⟩
theorem Encoding.sha1Step34 : Encoding.Statement .sha1Step34 := ⟨rfl, rfl⟩
theorem Encoding.sha1Step35 : Encoding.Statement .sha1Step35 := ⟨rfl, rfl⟩
theorem Encoding.sha1Step36 : Encoding.Statement .sha1Step36 := ⟨rfl, rfl⟩
theorem Encoding.sha1Step37 : Encoding.Statement .sha1Step37 := ⟨rfl, rfl⟩
theorem Encoding.sha1Step38 : Encoding.Statement .sha1Step38 := ⟨rfl, rfl⟩
theorem Encoding.sha1Step39 : Encoding.Statement .sha1Step39 := ⟨rfl, rfl⟩
theorem Encoding.sha1Step40 : Encoding.Statement .sha1Step40 := ⟨rfl, rfl⟩
theorem Encoding.sha1Step41 : Encoding.Statement .sha1Step41 := ⟨rfl, rfl⟩
theorem Encoding.sha1Step42 : Encoding.Statement .sha1Step42 := ⟨rfl, rfl⟩
theorem Encoding.sha1Step43 : Encoding.Statement .sha1Step43 := ⟨rfl, rfl⟩
theorem Encoding.sha1Step44 : Encoding.Statement .sha1Step44 := ⟨rfl, rfl⟩
theorem Encoding.sha1Step45 : Encoding.Statement .sha1Step45 := ⟨rfl, rfl⟩
theorem Encoding.sha1Step46 : Encoding.Statement .sha1Step46 := ⟨rfl, rfl⟩
theorem Encoding.sha1Step47 : Encoding.Statement .sha1Step47 := ⟨rfl, rfl⟩
theorem Encoding.sha1Step48 : Encoding.Statement .sha1Step48 := ⟨rfl, rfl⟩
theorem Encoding.sha1Step49 : Encoding.Statement .sha1Step49 := ⟨rfl, rfl⟩
theorem Encoding.sha1Step50 : Encoding.Statement .sha1Step50 := ⟨rfl, rfl⟩
theorem Encoding.sha1Step51 : Encoding.Statement .sha1Step51 := ⟨rfl, rfl⟩
theorem Encoding.sha1Step52 : Encoding.Statement .sha1Step52 := ⟨rfl, rfl⟩
theorem Encoding.sha1Step53 : Encoding.Statement .sha1Step53 := ⟨rfl, rfl⟩
theorem Encoding.sha1Step54 : Encoding.Statement .sha1Step54 := ⟨rfl, rfl⟩
theorem Encoding.sha1Step55 : Encoding.Statement .sha1Step55 := ⟨rfl, rfl⟩
theorem Encoding.sha1Step56 : Encoding.Statement .sha1Step56 := ⟨rfl, rfl⟩
theorem Encoding.sha1Step57 : Encoding.Statement .sha1Step57 := ⟨rfl, rfl⟩
theorem Encoding.sha1Step58 : Encoding.Statement .sha1Step58 := ⟨rfl, rfl⟩
theorem Encoding.sha1Step59 : Encoding.Statement .sha1Step59 := ⟨rfl, rfl⟩
theorem Encoding.sha1Step60 : Encoding.Statement .sha1Step60 := ⟨rfl, rfl⟩
theorem Encoding.sha1Step61 : Encoding.Statement .sha1Step61 := ⟨rfl, rfl⟩
theorem Encoding.sha1Step62 : Encoding.Statement .sha1Step62 := ⟨rfl, rfl⟩
theorem Encoding.sha1Step63 : Encoding.Statement .sha1Step63 := ⟨rfl, rfl⟩
theorem Encoding.sha1Step64 : Encoding.Statement .sha1Step64 := ⟨rfl, rfl⟩
theorem Encoding.sha1Step65 : Encoding.Statement .sha1Step65 := ⟨rfl, rfl⟩
theorem Encoding.sha1Step66 : Encoding.Statement .sha1Step66 := ⟨rfl, rfl⟩
theorem Encoding.sha1Step67 : Encoding.Statement .sha1Step67 := ⟨rfl, rfl⟩
theorem Encoding.sha1Step68 : Encoding.Statement .sha1Step68 := ⟨rfl, rfl⟩
theorem Encoding.sha1Step69 : Encoding.Statement .sha1Step69 := ⟨rfl, rfl⟩
theorem Encoding.sha1Step70 : Encoding.Statement .sha1Step70 := ⟨rfl, rfl⟩
theorem Encoding.sha1Step71 : Encoding.Statement .sha1Step71 := ⟨rfl, rfl⟩
theorem Encoding.sha1Step72 : Encoding.Statement .sha1Step72 := ⟨rfl, rfl⟩
theorem Encoding.sha1Step73 : Encoding.Statement .sha1Step73 := ⟨rfl, rfl⟩
theorem Encoding.sha1Step74 : Encoding.Statement .sha1Step74 := ⟨rfl, rfl⟩
theorem Encoding.sha1Step75 : Encoding.Statement .sha1Step75 := ⟨rfl, rfl⟩
theorem Encoding.sha1Step76 : Encoding.Statement .sha1Step76 := ⟨rfl, rfl⟩
theorem Encoding.sha1Step77 : Encoding.Statement .sha1Step77 := ⟨rfl, rfl⟩
theorem Encoding.sha1Step78 : Encoding.Statement .sha1Step78 := ⟨rfl, rfl⟩
theorem Encoding.sha1Step79 : Encoding.Statement .sha1Step79 := ⟨rfl, rfl⟩

end Sys2Proof.Laws
end

