-- ==== Sys2Proof/Tests/Slice0.lean ====
section
/-! SUPPORT. The model's own tests: what the decoder gives and refuses, the spec's vectors, one step of each family,
and a witness for the hypotheses of every statement. Expected values are the spec's (30_encoding.md, 95 to 97). -/

set_option maxRecDepth 100000

namespace Sys2Proof.Tests

open Sys2Proof Sys2Proof.Machine

/-! ## Helpers -/

/-- The decoder gives the instruction. -/
def decodesTo (c : Code) (i : Instr) : Bool :=
  match decode c with
  | .ok j => j = i
  | .error _ => false

/-- The decoder refuses with the reason. -/
def refusedWith (c : Code) (e : DecodeError) : Bool :=
  match decode c with
  | .ok _ => false
  | .error e' => e' = e

/-- A small machine: both engines in a phase, with a fault and a buffer, `H` the initial values, room for 8 bytes. -/
def small (p : Phase) (f : Bool) (c : Cause) (buf : List Byte) : State :=
  { md5 := ⟨md5Iv, buf, p, f, c, none⟩, sha1 := ⟨sha1Iv, buf, p, f, c, none⟩,
    bufCap := 8, inbox := [], outbox := [], freeCount := 9 }

/-- The same with a host stream. -/
def smallIn (p : Phase) (f : Bool) (c : Cause) (buf : List Byte) (inbox : List HostEvent) : State :=
  { small p f c buf with inbox := inbox }

/-- Both engines created, with a buffer of any size. -/
def created (buf : List Byte) : State := { small .active false .none buf with bufCap := 1000 }

/-- The responses after an outcome. -/
def responses (o : Outcome) : List (Bool × Byte × List Byte) :=
  match nextOf o with
  | some t => t.outbox.map fun r => (r.ok, r.status, r.data)
  | none => []

/-! ## Well-formed and ill-formed code words (30_encoding.md R83, R84, R88) -/

theorem test_wf_command_first_reserved_bit :
    Code.wf (.cmd ⟨0b00001000#8, []⟩) = false := by decide

theorem test_wf_command_all_ones :
    Code.wf (.cmd ⟨0b11111111#8, [0x61#8]⟩) = false := by decide

theorem test_wf_command_last_legal :
    Code.wf (.cmd ⟨0b00000111#8, [0x61#8]⟩) = true := by decide

theorem test_wf_sha1_step_80 :
    Code.wf (.sha1Step 0b1010000#7) = false := by decide

theorem test_wf_sha1_step_79 :
    Code.wf (.sha1Step 0b1001111#7) = true := by decide

theorem test_decode_refuses_illegal_command :
    refusedWith (.cmd ⟨0b00001000#8, [0x61#8]⟩) (.illegalCmd 0b00001000#8) = true := by decide

theorem test_decode_refuses_reserved_step :
    refusedWith (.sha1Step 0b1010000#7) (.reservedStep 0b1010000#7) = true := by decide

/-! ## Every word of the opcode table, bit by bit, and its instruction (30_encoding.md R83, R87, R88) -/

theorem test_decode_commands :
    ([
      (0b00000000#8, .md5Create),
      (0b00000001#8, .md5Append [0x61#8, 0xff#8]),
      (0b00000010#8, .md5Finalize),
      (0b00000011#8, .md5Render),
      (0b00000100#8, .sha1Create),
      (0b00000101#8, .sha1Append [0x61#8, 0xff#8]),
      (0b00000110#8, .sha1Finalize),
      (0b00000111#8, .sha1Render)] : List (Byte × Instr)).all (fun t => decodesTo (.cmd ⟨t.1, [0x61#8, 0xff#8]⟩) t.2) = true := by decide

theorem test_decode_md5_round_0 :
    ([
      (0b000000#6, .md5Step0), (0b000001#6, .md5Step1), (0b000010#6, .md5Step2), (0b000011#6, .md5Step3),
      (0b000100#6, .md5Step4), (0b000101#6, .md5Step5), (0b000110#6, .md5Step6), (0b000111#6, .md5Step7),
      (0b001000#6, .md5Step8), (0b001001#6, .md5Step9), (0b001010#6, .md5Step10), (0b001011#6, .md5Step11),
      (0b001100#6, .md5Step12), (0b001101#6, .md5Step13), (0b001110#6, .md5Step14), (0b001111#6, .md5Step15)] : List (BitVec 6 × Instr)).all (fun t => decodesTo (.md5Step t.1) t.2) = true := by decide

theorem test_decode_md5_round_1 :
    ([
      (0b010000#6, .md5Step16), (0b010001#6, .md5Step17), (0b010010#6, .md5Step18), (0b010011#6, .md5Step19),
      (0b010100#6, .md5Step20), (0b010101#6, .md5Step21), (0b010110#6, .md5Step22), (0b010111#6, .md5Step23),
      (0b011000#6, .md5Step24), (0b011001#6, .md5Step25), (0b011010#6, .md5Step26), (0b011011#6, .md5Step27),
      (0b011100#6, .md5Step28), (0b011101#6, .md5Step29), (0b011110#6, .md5Step30), (0b011111#6, .md5Step31)] : List (BitVec 6 × Instr)).all (fun t => decodesTo (.md5Step t.1) t.2) = true := by decide

theorem test_decode_md5_round_2 :
    ([
      (0b100000#6, .md5Step32), (0b100001#6, .md5Step33), (0b100010#6, .md5Step34), (0b100011#6, .md5Step35),
      (0b100100#6, .md5Step36), (0b100101#6, .md5Step37), (0b100110#6, .md5Step38), (0b100111#6, .md5Step39),
      (0b101000#6, .md5Step40), (0b101001#6, .md5Step41), (0b101010#6, .md5Step42), (0b101011#6, .md5Step43),
      (0b101100#6, .md5Step44), (0b101101#6, .md5Step45), (0b101110#6, .md5Step46), (0b101111#6, .md5Step47)] : List (BitVec 6 × Instr)).all (fun t => decodesTo (.md5Step t.1) t.2) = true := by decide

theorem test_decode_md5_round_3 :
    ([
      (0b110000#6, .md5Step48), (0b110001#6, .md5Step49), (0b110010#6, .md5Step50), (0b110011#6, .md5Step51),
      (0b110100#6, .md5Step52), (0b110101#6, .md5Step53), (0b110110#6, .md5Step54), (0b110111#6, .md5Step55),
      (0b111000#6, .md5Step56), (0b111001#6, .md5Step57), (0b111010#6, .md5Step58), (0b111011#6, .md5Step59),
      (0b111100#6, .md5Step60), (0b111101#6, .md5Step61), (0b111110#6, .md5Step62), (0b111111#6, .md5Step63)] : List (BitVec 6 × Instr)).all (fun t => decodesTo (.md5Step t.1) t.2) = true := by decide

theorem test_decode_sha1_stage_0 :
    ([
      (0b0000000#7, .sha1Step0), (0b0000001#7, .sha1Step1), (0b0000010#7, .sha1Step2), (0b0000011#7, .sha1Step3),
      (0b0000100#7, .sha1Step4), (0b0000101#7, .sha1Step5), (0b0000110#7, .sha1Step6), (0b0000111#7, .sha1Step7),
      (0b0001000#7, .sha1Step8), (0b0001001#7, .sha1Step9), (0b0001010#7, .sha1Step10), (0b0001011#7, .sha1Step11),
      (0b0001100#7, .sha1Step12), (0b0001101#7, .sha1Step13), (0b0001110#7, .sha1Step14), (0b0001111#7, .sha1Step15),
      (0b0010000#7, .sha1Step16), (0b0010001#7, .sha1Step17), (0b0010010#7, .sha1Step18), (0b0010011#7, .sha1Step19)] : List (BitVec 7 × Instr)).all (fun t => decodesTo (.sha1Step t.1) t.2) = true := by decide

theorem test_decode_sha1_stage_1 :
    ([
      (0b0010100#7, .sha1Step20), (0b0010101#7, .sha1Step21), (0b0010110#7, .sha1Step22), (0b0010111#7, .sha1Step23),
      (0b0011000#7, .sha1Step24), (0b0011001#7, .sha1Step25), (0b0011010#7, .sha1Step26), (0b0011011#7, .sha1Step27),
      (0b0011100#7, .sha1Step28), (0b0011101#7, .sha1Step29), (0b0011110#7, .sha1Step30), (0b0011111#7, .sha1Step31),
      (0b0100000#7, .sha1Step32), (0b0100001#7, .sha1Step33), (0b0100010#7, .sha1Step34), (0b0100011#7, .sha1Step35),
      (0b0100100#7, .sha1Step36), (0b0100101#7, .sha1Step37), (0b0100110#7, .sha1Step38), (0b0100111#7, .sha1Step39)] : List (BitVec 7 × Instr)).all (fun t => decodesTo (.sha1Step t.1) t.2) = true := by decide

theorem test_decode_sha1_stage_2 :
    ([
      (0b0101000#7, .sha1Step40), (0b0101001#7, .sha1Step41), (0b0101010#7, .sha1Step42), (0b0101011#7, .sha1Step43),
      (0b0101100#7, .sha1Step44), (0b0101101#7, .sha1Step45), (0b0101110#7, .sha1Step46), (0b0101111#7, .sha1Step47),
      (0b0110000#7, .sha1Step48), (0b0110001#7, .sha1Step49), (0b0110010#7, .sha1Step50), (0b0110011#7, .sha1Step51),
      (0b0110100#7, .sha1Step52), (0b0110101#7, .sha1Step53), (0b0110110#7, .sha1Step54), (0b0110111#7, .sha1Step55),
      (0b0111000#7, .sha1Step56), (0b0111001#7, .sha1Step57), (0b0111010#7, .sha1Step58), (0b0111011#7, .sha1Step59)] : List (BitVec 7 × Instr)).all (fun t => decodesTo (.sha1Step t.1) t.2) = true := by decide

theorem test_decode_sha1_stage_3 :
    ([
      (0b0111100#7, .sha1Step60), (0b0111101#7, .sha1Step61), (0b0111110#7, .sha1Step62), (0b0111111#7, .sha1Step63),
      (0b1000000#7, .sha1Step64), (0b1000001#7, .sha1Step65), (0b1000010#7, .sha1Step66), (0b1000011#7, .sha1Step67),
      (0b1000100#7, .sha1Step68), (0b1000101#7, .sha1Step69), (0b1000110#7, .sha1Step70), (0b1000111#7, .sha1Step71),
      (0b1001000#7, .sha1Step72), (0b1001001#7, .sha1Step73), (0b1001010#7, .sha1Step74), (0b1001011#7, .sha1Step75),
      (0b1001100#7, .sha1Step76), (0b1001101#7, .sha1Step77), (0b1001110#7, .sha1Step78), (0b1001111#7, .sha1Step79)] : List (BitVec 7 × Instr)).all (fun t => decodesTo (.sha1Step t.1) t.2) = true := by decide

/-- One byte of the three overlapping code spaces (log 11). -/
theorem test_decodeTableWord_reads_the_table :
    decodeTableWord 6 0b010011 = some .md5Step19 ∧ decodeTableWord 7 0b1001111 = some .sha1Step79 ∧
      decodeTableWord 8 0b00000101 = some (.sha1Append []) ∧ decodeTableWord 8 0b00001000 = some .md5Step8 ∧
      decodeTableWord 8 0b01001111 = some .sha1Step79 ∧ decodeTableWord 8 0b11111111 = none := by decide

/-! ## ROMs, word operations and the padder (42_md5_compress.md R178; 95_test_vectors.md 2.1 to 2.3) -/

theorem test_rom_rows :
    (romG 0, romS 0, romT 0) = (0, 7, 0xd76aa478#32) ∧ (romG 17, romS 17, romT 17) = (6, 9, 0xc040b340#32) ∧
      (romG 34, romS 34, romT 34) = (11, 16, 0x6d9d6122#32) ∧ (romG 63, romS 63, romT 63) = (9, 21, 0xeb86d391#32) := by decide

theorem test_add_wraps :
    0xffffffff#32 + 0xffffffff#32 = 0xfffffffe#32 ∧ 0x80000000#32 + 0x80000000#32 = 0x00000000#32 ∧
      0xc3d2e1f0#32 + 0xec052519#32 = 0xafd80709#32 := by decide

theorem test_rotl :
    rotl 0x80000000#32 1 = 0x00000001#32 ∧ rotl 0x00000001#32 31 = 0x80000000#32 ∧
      rotl 0x12345678#32 0 = 0x12345678#32 ∧ rotl 0x12345678#32 22 = 0x9e048d15#32 ∧
      rotl 0xefcdab89#32 30 = 0x7bf36ae2#32 := by decide

theorem test_byte_orders :
    le32 0x61#8 0x62#8 0x63#8 0x80#8 = 0x80636261#32 ∧ be32 0x61#8 0x62#8 0x63#8 0x80#8 = 0x61626380#32 ∧
      le32Bytes 0x04b2008f#32 = [0x8f#8, 0x00#8, 0xb2#8, 0x04#8] ∧ be32Bytes 0x04b2008f#32 = [0x04#8, 0xb2#8, 0x00#8, 0x8f#8] ∧
      bswap32 0x04b2008f#32 = 0x8f00b204#32 := by decide

theorem test_hex8_keeps_leading_zeros :
    hex8 0x04b2008f#32 = [0x30#8, 0x34#8, 0x62#8, 0x32#8, 0x30#8, 0x30#8, 0x38#8, 0x66#8] := by decide

theorem test_nonlinear_truth_tables :
    let b := 0xaaaaaaaa#32; let c := 0xcccccccc#32; let d := 0xf0f0f0f0#32
    md5F b c d = 0xd8d8d8d8#32 ∧ md5G b c d = 0xacacacac#32 ∧ md5Hf b c d = 0x96969696#32 ∧ md5I b c d = 0x63636363#32 ∧
      sha1Ch b c d = 0xd8d8d8d8#32 ∧ sha1Parity b c d = 0x96969696#32 ∧ sha1Maj b c d = 0xe8e8e8e8#32 := by decide

theorem test_pad_55_fills_the_block :
    (pad .le (List.replicate 55 0x61#8)).drop 54 =
        [0x61#8, 0x80#8, 0xb8#8, 0x01#8, 0x00#8, 0x00#8, 0x00#8, 0x00#8, 0x00#8, 0x00#8] ∧
      (pad .be (List.replicate 55 0x61#8)).drop 54 =
        [0x61#8, 0x80#8, 0x00#8, 0x00#8, 0x00#8, 0x00#8, 0x00#8, 0x00#8, 0x01#8, 0xb8#8] := by decide

theorem test_pad_56_takes_a_second_block :
    (pad .le (List.replicate 56 0x61#8)).length = 128 ∧
      (pad .be (List.replicate 56 0x61#8)).drop 120 =
        [0x00#8, 0x00#8, 0x00#8, 0x00#8, 0x00#8, 0x00#8, 0x01#8, 0xc0#8] := by decide

theorem test_pad_64_takes_a_full_extra_block :
    (blocksOf (pad .le (List.replicate 64 0x61#8))).length = 2 ∧
      (pad .le (List.replicate 64 0x61#8)).drop 120 =
        [0x00#8, 0x02#8, 0x00#8, 0x00#8, 0x00#8, 0x00#8, 0x00#8, 0x00#8] := by decide

/-! ## The micro-operations, one step each, along the spec's traces of the empty message (96 V-MD5-1, 97 V-SHA1-1) -/

def md5Trace0 : List Word :=
  [
    0xa5202774#32, 0xf59592dd#32, 0xe7f06b23#32, 0x1b163203#32, 0x32033344#32, 0x2f35d494#32, 0xf5b158db#32, 0x9bc13ce9#32,
    0x3893b991#32, 0xfce4a312#32, 0xe1ef0576#32, 0x70768a29#32, 0xf56c7cf1#32, 0x374943a7#32, 0x5aa53f75#32, 0xd6819c6a#32]

def md5Trace1 : List Word :=
  [
    0x1c7d7513#32, 0x7bd57a3a#32, 0xc095f13a#32, 0xbd782e17#32, 0x3d1e3e6c#32, 0x68b7b3e3#32, 0xeb41643e#32, 0xe422531a#32,
    0x306ec122#32, 0xd28c77c2#32, 0xa3c663da#32, 0xa0572807#32, 0x13707036#32, 0xae7813db#32, 0x1c31c384#32, 0xa2205f1f#32]

def md5Trace2 : List Word :=
  [
    0xdf63eaa1#32, 0xc3689f5b#32, 0x12f3e755#32, 0x004b6669#32, 0x5f7a9b2e#32, 0xabc34e16#32, 0x91ca4cb7#32, 0xc5dc8c15#32,
    0x4497169d#32, 0x76fd93d4#32, 0xfd95f243#32, 0x0fe32453#32, 0x3f55edfd#32, 0x22a31f54#32, 0x68d84ea2#32, 0xca7d2dbd#32]

def md5Trace3 : List Word :=
  [
    0x93aa2577#32, 0x1688dc85#32, 0xcd85b8cb#32, 0x561e0689#32, 0x5625a114#32, 0x3450f42b#32, 0x392ad0d0#32, 0x1e77fa61#32,
    0x474a9c8c#32, 0xdfce00bc#32, 0x36594b14#32, 0x30130182#32, 0x7246fad3#32, 0x6e10a476#32, 0xff4ea3eb#32, 0x14e45506#32]

/-- Register `B` after each MD5 step of V-MD5-1. -/
def md5Trace : List Word := md5Trace0 ++ md5Trace1 ++ md5Trace2 ++ md5Trace3

/-- Registers before step `i` of V-MD5-1: each new `B` moves on to `C`, `D` and `A`. -/
def md5Before (i : Nat) : Md5Words :=
  let q := [0x67452301#32, 0x10325476#32, 0x98badcfe#32, 0xefcdab89#32] ++ md5Trace
  ⟨q.getD i 0, q.getD (i + 3) 0, q.getD (i + 2) 0, q.getD (i + 1) 0⟩

/-- One machine step at MD5 step `i` of V-MD5-1, and the working registers after it. -/
def md5StepAgrees (i : Fin 64) : Bool :=
  let r := { md5EnterBlock md5Iv (pad .le []) 0 with step := i, work := md5Before i.val }
  match nextOf (step ((created []).setMd5Run (some r))) with
  | none => false
  | some t =>
    match t.md5.run with
    | some r' => r'.work = md5Before (i.val + 1) && r'.step.val = i.val + 1
    | none => i.val = 63 && t.md5.h = md5Feed md5Iv (md5Before 64)

def sha1Trace0 : List Word :=
  [
    0x1fb498b3#32, 0x5d43e370#32, 0x158d2f62#32, 0xcdecfb5d#32, 0x4953565e#32, 0xe44ab766#32, 0xc09d7f27#32, 0x87074800#32,
    0x41376611#32, 0xcbdbff31#32, 0x40166973#32, 0xadc0e0ca#32, 0x84c05eb2#32, 0x1512c8b9#32, 0x40182905#32, 0xd8fd6547#32,
    0x06bf9173#32, 0x28a9520e#32, 0x0b3088dd#32, 0xe758e8da#32]

def sha1Trace1 : List Word :=
  [
    0x90eb9850#32, 0x7dbb787d#32, 0x1c64d028#32, 0x1e97b73a#32, 0x62d7f53f#32, 0x34f3d6d8#32, 0x4f2ed1c1#32, 0xc7b11e2d#32,
    0x874b786f#32, 0xca4556cb#32, 0x6a2e466e#32, 0x62ea3d59#32, 0xb77bac25#32, 0x4b1347e2#32, 0x391ef0c4#32, 0xabbab988#32,
    0x04f07669#32, 0xb201788b#32, 0x62273351#32, 0x9bdbdd71#32]

def sha1Trace2 : List Word :=
  [
    0x95aa398b#32, 0x5e28e858#32, 0x95642485#32, 0xfa950aba#32, 0xde1e3a01#32, 0xafe695ab#32, 0xa195ba90#32, 0xe6d39f43#32,
    0x0bca9922#32, 0x6ae826ff#32, 0x01ff3253#32, 0xe2581ce0#32, 0x56ce73ab#32, 0xae56e542#32, 0x8590c0e8#32, 0xbe4a4bea#32,
    0x168ce0bb#32, 0xe1afab22#32, 0x982bcbca#32, 0x9b9d2913#32]

def sha1Trace3 : List Word :=
  [
    0xd37db937#32, 0x85b9d227#32, 0xcd98fbb7#32, 0xbb0f226f#32, 0xeb59446c#32, 0xd37225cb#32, 0x111341f3#32, 0xe79afbf0#32,
    0x8ba00627#32, 0x503c7ae0#32, 0x3cd517f9#32, 0xb47ddf0e#32, 0x5e3a0780#32, 0x63db37b2#32, 0x15e98d17#32, 0xb0149467#32,
    0x14b7106a#32, 0x666b8bc6#32, 0x6e9d9f84#32, 0x72f480ed#32]

/-- Register `A` after each SHA-1 step of V-SHA1-1. -/
def sha1Trace : List Word := sha1Trace0 ++ sha1Trace1 ++ sha1Trace2 ++ sha1Trace3

/-- Registers before step `t` of V-SHA1-1: each new `A` moves on to `B` and, rotated by 30, to `C`, `D` and `E`. -/
def sha1Before (t : Nat) : Sha1Words :=
  let q := [BitVec.rotateLeft 0xc3d2e1f0#32 2, BitVec.rotateLeft 0x10325476#32 2, BitVec.rotateLeft 0x98badcfe#32 2,
    0xefcdab89#32, 0x67452301#32] ++ sha1Trace
  ⟨q.getD (t + 4) 0, q.getD (t + 3) 0, (q.getD (t + 2) 0).rotateLeft 30, (q.getD (t + 1) 0).rotateLeft 30,
    (q.getD t 0).rotateLeft 30⟩

/-- One machine step at SHA-1 step `t` of V-SHA1-1, and the working registers after it. -/
def sha1StepAgrees (t : Fin 80) : Bool :=
  let r := { sha1EnterBlock sha1Iv (pad .be []) 0 with step := t, work := sha1Before t.val }
  match nextOf (step ((created []).setSha1Run (some r))) with
  | none => false
  | some u =>
    match u.sha1.run with
    | some r' => r'.work = sha1Before (t.val + 1) && r'.temp = r'.work.a && r'.step.val = t.val + 1
    | none => t.val = 79 && u.sha1.h = sha1Feed sha1Iv (sha1Before 80)

/-- The helper gives the spec's rows whole. -/
theorem test_md5_trace_rows :
    md5Before 0 = md5Iv ∧ md5Before 1 = ⟨0x10325476#32, 0xa5202774#32, 0xefcdab89#32, 0x98badcfe#32⟩ ∧
      md5Before 64 = ⟨0x7246fad3#32, 0x14e45506#32, 0xff4ea3eb#32, 0x6e10a476#32⟩ := by decide

/-- The helper gives the spec's rows whole. -/
theorem test_sha1_trace_rows :
    sha1Before 0 = sha1Iv ∧
      sha1Before 1 = ⟨0x1fb498b3#32, 0x67452301#32, 0x7bf36ae2#32, 0x98badcfe#32, 0x10325476#32⟩ := by decide

theorem test_md5_steps_round_0 :
    ((List.finRange 64).drop 0 |>.take 16).all md5StepAgrees = true := by decide +kernel

theorem test_md5_steps_round_1 :
    ((List.finRange 64).drop 16 |>.take 16).all md5StepAgrees = true := by decide +kernel

theorem test_md5_steps_round_2 :
    ((List.finRange 64).drop 32 |>.take 16).all md5StepAgrees = true := by decide +kernel

theorem test_md5_steps_round_3 :
    ((List.finRange 64).drop 48 |>.take 16).all md5StepAgrees = true := by decide +kernel

theorem test_sha1_steps_stage_0 :
    ((List.finRange 80).drop 0 |>.take 20).all sha1StepAgrees = true := by decide +kernel

theorem test_sha1_steps_stage_1 :
    ((List.finRange 80).drop 20 |>.take 20).all sha1StepAgrees = true := by decide +kernel

theorem test_sha1_steps_stage_2 :
    ((List.finRange 80).drop 40 |>.take 20).all sha1StepAgrees = true := by decide +kernel

theorem test_sha1_steps_stage_3 :
    ((List.finRange 80).drop 60 |>.take 20).all sha1StepAgrees = true := by decide +kernel

theorem test_md5_last_step_ends_finalize :
    responses (exec .md5Step63 ((created []).setMd5Run
        (some { md5EnterBlock md5Iv (pad .le []) 0 with step := 63, work := md5Before 63 }))) =
      [(true, 0x02#8, [0xd4#8, 0x1d#8, 0x8c#8, 0xd9#8, 0x8f#8, 0x00#8, 0xb2#8, 0x04#8,
        0xe9#8, 0x80#8, 0x09#8, 0x98#8, 0xec#8, 0xf8#8, 0x42#8, 0x7e#8])] := by decide +kernel

theorem test_sha1_schedule :
    let w := sha1Schedule (blockAt (pad .be []) 0)
    w.get 16 = 0x00000001#32 ∧ w.get 30 = 0x0000000a#32 ∧ w.get 79 = 0x00200080#32 := by decide +kernel

/-! ## The commands, one step each (95_test_vectors.md 2.7, 2.6 and part 3) -/

theorem test_md5_command_table :
    ([
      (.idle, .md5Create, 0x01#8), (.idle, .md5Append [0x61#8], 0x14#8),
      (.idle, .md5Append (List.replicate 9 0x61#8), 0x14#8), (.idle, .md5Finalize, 0x14#8),
      (.idle, .md5Render, 0x14#8), (.active, .md5Create, 0x01#8),
      (.active, .md5Append [0x61#8], 0x01#8), (.active, .md5Append (List.replicate 9 0x61#8), 0x2d#8),
      (.active, .md5Finalize, 0x02#8), (.active, .md5Render, 0x25#8),
      (.done, .md5Create, 0x01#8), (.done, .md5Append [0x61#8], 0x1e#8),
      (.done, .md5Append (List.replicate 9 0x61#8), 0x1e#8), (.done, .md5Finalize, 0x1e#8),
      (.done, .md5Render, 0x02#8)] : List (Phase × Instr × Byte)).all (fun t =>
        (responses (exec t.2.1 (small t.1 false .none []))).map (·.2.1) = [t.2.2]) = true := by decide +kernel

theorem test_md5_refused_when_faulted :
    ([.md5Create, .md5Append [0x61#8], .md5Finalize, .md5Render] : List Instr).all (fun i =>
        responses (exec i (small .done true .reuse [])) = [(false, 0x1e#8, [])]) = true := by decide

theorem test_sha1_command_table :
    ([
      (.idle, .sha1Create, 0x01#8), (.idle, .sha1Append [0x61#8], 0x14#8),
      (.idle, .sha1Append (List.replicate 9 0x61#8), 0x14#8), (.idle, .sha1Finalize, 0x14#8),
      (.idle, .sha1Render, 0x14#8), (.active, .sha1Create, 0x01#8),
      (.active, .sha1Append [0x61#8], 0x01#8), (.active, .sha1Append (List.replicate 9 0x61#8), 0x2d#8),
      (.active, .sha1Finalize, 0x02#8), (.active, .sha1Render, 0x25#8),
      (.done, .sha1Create, 0x01#8), (.done, .sha1Append [0x61#8], 0x1e#8),
      (.done, .sha1Append (List.replicate 9 0x61#8), 0x1e#8), (.done, .sha1Finalize, 0x1e#8),
      (.done, .sha1Render, 0x02#8)] : List (Phase × Instr × Byte)).all (fun t =>
        (responses (exec t.2.1 (small t.1 false .none []))).map (·.2.1) = [t.2.2]) = true := by decide +kernel

theorem test_sha1_refused_when_faulted :
    ([.sha1Create, .sha1Append [0x61#8], .sha1Finalize, .sha1Render] : List Instr).all (fun i =>
        responses (exec i (small .done true .reuse [])) = [(false, 0x1e#8, [])]) = true := by decide

theorem test_illegal_words :
    ([(0x08#8, .idle, 0x0c#8), (0x0c#8, .active, 0x0d#8), (0xff#8, .done, 0x0e#8), (0xfb#8, .idle, 0x0c#8)] :
        List (Byte × Phase × Byte)).all (fun t =>
          responses (step (smallIn t.2.1 false .none [] [.command ⟨t.1, []⟩])) = [(false, t.2.2, [])]) = true := by decide

theorem test_illegal_word_faults_the_engine_of_bit_2 :
    (nextOf (step (smallIn .idle false .none [] [.command ⟨0xfb#8, []⟩]))).map (fun t => (t.md5.fault, t.sha1.fault)) =
        some (true, false) ∧
      (nextOf (step (smallIn .idle false .none [] [.command ⟨0x0c#8, []⟩]))).map (fun t => (t.md5.fault, t.sha1.fault)) =
        some (false, true) := by decide

/-- Program 9. -/
theorem test_append_to_the_capacity :
    (nextOf (exec (.md5Append [0x64#8]) { small .active false .none [0x61#8, 0x62#8, 0x63#8] with bufCap := 4 })).map
        (fun t => (t.md5.buf, t.md5.status)) = some ([0x61#8, 0x62#8, 0x63#8, 0x64#8], 0x01#8) ∧
      (nextOf (exec (.md5Append [0x65#8]) { small .active false .none [0x61#8, 0x62#8, 0x63#8, 0x64#8] with bufCap := 4 })).map
        (fun t => (t.md5.buf, t.md5.status)) = some ([0x61#8, 0x62#8, 0x63#8, 0x64#8], 0x2d#8) := by decide

/-- Program 5. -/
theorem test_create_discards_the_buffer :
    (nextOf (exec .md5Create (small .active false .none [0x78#8, 0x79#8, 0x7a#8]))).map (fun t => (t.md5.buf, t.md5.h)) =
      some ([], ⟨0x67452301#32, 0xefcdab89#32, 0x98badcfe#32, 0x10325476#32⟩) := by decide

/-- V-SRC-2. -/
theorem test_md5_abc :
    responses (exec .md5Finalize (created [0x61#8, 0x62#8, 0x63#8])) =
      [(true, 0x02#8, [0x90#8, 0x01#8, 0x50#8, 0x98#8, 0x3c#8, 0xd2#8, 0x4f#8, 0xb0#8, 0xd6#8, 0x96#8, 0x3f#8, 0x7d#8, 0x28#8, 0xe1#8, 0x7f#8, 0x72#8])] := by decide +kernel

/-- V-MD5-7. -/
theorem test_md5_three_blocks :
    responses (exec .md5Finalize (created ((List.range 120).map fun i => BitVec.ofNat 8 (7 * i + 3)))) =
      [(true, 0x02#8, [0xe3#8, 0xeb#8, 0x5a#8, 0x6c#8, 0x86#8, 0x69#8, 0xea#8, 0x01#8, 0xa8#8, 0xc1#8, 0x85#8, 0xb8#8, 0xab#8, 0xc8#8, 0xa5#8, 0xdc#8])] := by decide +kernel

/-- V-SRC-5. -/
theorem test_sha1_hello :
    responses (exec .sha1Finalize (created [0x48#8, 0x65#8, 0x6c#8, 0x6c#8, 0x6f#8])) =
      [(true, 0x02#8, [0xf7#8, 0xff#8, 0x9e#8, 0x8b#8, 0x7b#8, 0xb2#8, 0xe0#8, 0x9b#8, 0x70#8, 0x93#8, 0x5a#8, 0x5d#8, 0x78#8, 0x5e#8, 0x0c#8, 0xc5#8, 0xd9#8, 0xd0#8, 0xab#8, 0xf0#8])] := by decide +kernel

/-- V-SHA1-5. -/
theorem test_sha1_two_blocks :
    responses (exec .sha1Finalize (created (List.replicate 56 0x61#8))) =
      [(true, 0x02#8, [0xc2#8, 0xdb#8, 0x33#8, 0x0f#8, 0x60#8, 0x83#8, 0x85#8, 0x4c#8, 0x99#8, 0xd4#8, 0xb5#8, 0xbf#8, 0xb6#8, 0xe8#8, 0xf2#8, 0x9f#8, 0x20#8, 0x1b#8, 0xe6#8, 0x99#8])] := by decide +kernel

/-- V-MD5-2. -/
theorem test_md5_render :
    responses (exec .md5Render { small .done false .none [] with
        md5 := ⟨⟨0x98500190#32, 0xb04fd23c#32, 0x7d3f96d6#32, 0x727fe128#32⟩, [], .done, false, .none, none⟩ }) =
      [(true, 0x02#8, [0x39#8, 0x30#8, 0x30#8, 0x31#8, 0x35#8, 0x30#8, 0x39#8, 0x38#8, 0x33#8, 0x63#8, 0x64#8, 0x32#8, 0x34#8, 0x66#8, 0x62#8, 0x30#8, 0x64#8, 0x36#8, 0x39#8, 0x36#8, 0x33#8, 0x66#8, 0x37#8, 0x64#8, 0x32#8, 0x38#8, 0x65#8, 0x31#8, 0x37#8, 0x66#8, 0x37#8, 0x32#8])] := by decide

/-- V-SHA1-3. -/
theorem test_sha1_render :
    responses (exec .sha1Render { small .done false .none [] with
        sha1 := ⟨⟨0xa9993e36#32, 0x4706816a#32, 0xba3e2571#32, 0x7850c26c#32, 0x9cd0d89d#32⟩, [], .done, false, .none, none⟩ }) =
      [(true, 0x02#8, [0x61#8, 0x39#8, 0x39#8, 0x39#8, 0x33#8, 0x65#8, 0x33#8, 0x36#8, 0x34#8, 0x37#8, 0x30#8, 0x36#8, 0x38#8, 0x31#8, 0x36#8, 0x61#8, 0x62#8, 0x61#8, 0x33#8, 0x65#8, 0x32#8, 0x35#8, 0x37#8, 0x31#8, 0x37#8, 0x38#8, 0x35#8, 0x30#8, 0x63#8, 0x32#8, 0x36#8, 0x63#8, 0x39#8, 0x63#8, 0x64#8, 0x30#8, 0x64#8, 0x38#8, 0x39#8, 0x64#8])] := by decide

/-- Program 3, its appends. -/
theorem test_interleaved_engines :
    (execAll [.md5Append [0x48#8, 0x65#8], .sha1Append [0x61#8], .md5Append [0x6c#8]] (small .active false .none [])).map
        (fun t => (t.md5.buf, t.sha1.buf)) = some ([0x48#8, 0x65#8, 0x6c#8], [0x61#8]) := by decide

/-! ## From reset (10_state.md R37) -/

theorem test_create_runs_first_after_reset :
    (nextOf (step (State.reset.withFetchWord 8 0))).map (fun t => (t.md5.phase, t.md5.h, t.sha1.phase)) =
      some (.active, md5Iv, .idle) := by decide

theorem test_md5_step0_runs_first_after_reset :
    ((nextOf (step (State.reset.withFetchWord 6 0))).bind (·.md5.run)).map (·.step) = some 1 := by decide

theorem test_sha1_step79_runs_first_after_reset :
    (nextOf (step (State.reset.withFetchWord 7 79))).map (·.sha1.phase) = some .done := by decide

/-! ## A witness for the hypotheses of each statement, one for each of its clauses -/

theorem test_witness_LegalCodeWordsAreTheOnesThatDecode :
    (decode (.cmd ⟨0x07#8, [0x61#8]⟩) = .ok .sha1Render) ∧ decode (.md5Step 63#6) = .ok .md5Step63 ∧
      decode (.sha1Step 79#7) = .ok .sha1Step79 := ⟨rfl, rfl, rfl⟩

theorem test_witness_TheEightCommandWords :
    8 ≤ (0x08#8).toNat ∧ 8 ≤ (0xff#8).toNat := by decide

theorem test_witness_SampleStepIndices :
    80 ≤ (80#7).toNat ∧ 80 ≤ (127#7).toNat := by decide

theorem test_witness_StepRunsTheDecodedInstruction_command :
    let s := smallIn .active false .none [] [.command ⟨0x05#8, [0x61#8]⟩, .reset]
    s.Quiescent ∧ s.inbox = .command ⟨0x05#8, [0x61#8]⟩ :: [.reset] ∧
      decode (.cmd ⟨0x05#8, [0x61#8]⟩) = .ok (.sha1Append [0x61#8]) := ⟨⟨rfl, rfl⟩, rfl, rfl⟩

/-- An MD5 FINALIZE at its last step, the first block of two. -/
def md5AtEnd (buf : List Byte) (blk : Nat) : Md5Run := { md5EnterBlock md5Iv (pad .le buf) blk with step := 63 }

/-- A SHA-1 FINALIZE at its last step. -/
def sha1AtEnd (buf : List Byte) (blk : Nat) : Sha1Run := { sha1EnterBlock sha1Iv (pad .be buf) blk with step := 79 }

theorem test_witness_StepRunsTheDecodedInstruction_md5_step :
    ((created []).setMd5Run (some (md5AtEnd [] 0))).md5.run = some (md5AtEnd [] 0) ∧
      decode (.md5Step (BitVec.ofNat 6 (md5AtEnd [] 0).step.val)) = .ok .md5Step63 := ⟨rfl, rfl⟩

theorem test_witness_StepRunsTheDecodedInstruction_sha1_step :
    let s := (created []).setSha1Run (some (sha1AtEnd [] 0))
    s.md5.run = none ∧ s.sha1.run = some (sha1AtEnd [] 0) ∧
      decode (.sha1Step (BitVec.ofNat 7 (sha1AtEnd [] 0).step.val)) = .ok .sha1Step79 := ⟨rfl, rfl, rfl⟩

theorem test_witness_IdleStepChangesNothing :
    (small .idle false .none []).Quiescent ∧ (small .idle false .none []).inbox = [] := by decide

/-- For IllegalWordFaultsItsEngine, EveryCommandIsAnsweredOnce, FaultPriority. -/
theorem test_witness_illegal_word_to_md5 :
    let s := smallIn .active false .none [] [.command ⟨0x08#8, []⟩]
    s.Quiescent ∧ s.inbox = .command ⟨0x08#8, []⟩ :: [] ∧ 8 ≤ (0x08#8).toNat ∧ (0x08#8).getLsbD 2 = false ∧
      s.md5.fault = false := by decide

/-- For IllegalWordFaultsItsEngine, EveryCommandIsAnsweredOnce, FaultPriority. -/
theorem test_witness_illegal_word_to_sha1 :
    let s := smallIn .active false .none [] [.command ⟨0xff#8, []⟩]
    s.Quiescent ∧ s.inbox = .command ⟨0xff#8, []⟩ :: [] ∧ 8 ≤ (0xff#8).toNat ∧ (0xff#8).getLsbD 2 = true ∧
      s.sha1.fault = false := by decide

theorem test_witness_ResetEventResetsBothEngines :
    let s := smallIn .done true .reuse [] [.reset]
    s.Quiescent ∧ s.inbox = .reset :: [] := by decide

/-- For Md5CreateResult, Md5AppendResult, Md5FinalizeResult and Md5RenderResult, their clauses by phase. -/
theorem test_witness_md5_clean_engine :
    ([.idle, .active, .done] : List Phase).all (fun p =>
        let s := small p false .none [0x61#8]
        s.md5.run = none ∧ s.md5.fault = false ∧ s.md5.cause = .none ∧ s.md5.phase = p) = true := by decide

/-- For the refusing clause of the same statements, and of FaultedEngineRefusesEveryCommand. -/
theorem test_witness_md5_faulted_engine :
    let s := small .done true .reuse []
    s.md5.run = none ∧ s.md5.fault = true := by decide

/-- The largest payload that fits and the smallest that does not; also for AppendIsTheOnlyStore, CapacityIsTheOnlyBoundOnData
and FaultPriority. -/
theorem test_witness_Md5AppendResult_capacity :
    let s := small .active false .none [0x61#8, 0x62#8]
    s.md5.phase = .active ∧ s.md5.buf.length + (List.replicate 6 0x00#8).length ≤ s.bufCap.val ∧
      s.bufCap.val < s.md5.buf.length + (List.replicate 7 0x00#8).length := by decide

/-- For Sha1CreateResult, Sha1AppendResult, Sha1FinalizeResult and Sha1RenderResult, their clauses by phase. -/
theorem test_witness_sha1_clean_engine :
    ([.idle, .active, .done] : List Phase).all (fun p =>
        let s := small p false .none [0x61#8]
        s.sha1.run = none ∧ s.sha1.fault = false ∧ s.sha1.cause = .none ∧ s.sha1.phase = p) = true := by decide

/-- For the refusing clause of the same statements, and of FaultedEngineRefusesEveryCommand. -/
theorem test_witness_sha1_faulted_engine :
    let s := small .done true .reuse []
    s.sha1.run = none ∧ s.sha1.fault = true := by decide

/-- The largest payload that fits and the smallest that does not; also for AppendIsTheOnlyStore, CapacityIsTheOnlyBoundOnData
and FaultPriority. -/
theorem test_witness_Sha1AppendResult_capacity :
    let s := small .active false .none [0x61#8, 0x62#8]
    s.sha1.phase = .active ∧ s.sha1.buf.length + (List.replicate 6 0x00#8).length ≤ s.bufCap.val ∧
      s.bufCap.val < s.sha1.buf.length + (List.replicate 7 0x00#8).length := by decide

theorem test_witness_FaultedEngineRefusesEveryCommand_illegal_word :
    let s := smallIn .done true .reuse [] [.command ⟨0x08#8, []⟩]
    s.Quiescent ∧ s.inbox = .command ⟨0x08#8, []⟩ :: [] ∧ 8 ≤ (0x08#8).toNat ∧ (0x08#8).getLsbD 2 = false ∧
      (0x0c#8).getLsbD 2 = true ∧ s.md5.fault = true ∧ s.sha1.fault = true := by decide

theorem test_witness_FaultIsStickyUntilReset :
    let s := smallIn .done true .reuse [] [.command ⟨0x00#8, []⟩]
    (∃ t, step s = .next t) ∧ s.md5.fault = true ∧ s.sha1.fault = true := ⟨⟨_, rfl⟩, rfl, rfl⟩

theorem test_witness_AppendIsTheOnlyStore_next :
    ∃ t, exec (.md5Append [0x61#8]) (small .active false .none []) = .next t := ⟨_, rfl⟩

theorem test_witness_WhoWritesTheDigestState :
    ∃ t, exec .md5Create { small .done false .none [] with md5 := ⟨⟨0, 0, 0, 0⟩, [], .done, false, .none, none⟩ } = .next t ∧
      t.md5.h ≠ ⟨0, 0, 0, 0⟩ := ⟨_, rfl, by decide⟩

theorem test_witness_WhoWritesTheDigestState_sha1 :
    ∃ t, exec .sha1Create { small .done false .none [] with sha1 := ⟨⟨0, 0, 0, 0, 0⟩, [], .done, false, .none, none⟩ } =
        .next t ∧ t.sha1.h ≠ ⟨0, 0, 0, 0, 0⟩ := ⟨_, rfl, by decide⟩

theorem test_witness_EnginesAreIndependent :
    let s := small .active false .none [0x61#8]
    let u := { small .done true .reuse [] with md5 := s.md5 }
    let v := { small .done true .reuse [] with sha1 := s.sha1 }
    s.bufCap = u.bufCap ∧ s.bufCap = v.bufCap ∧ s.md5 = u.md5 ∧ s.sha1 ≠ u.sha1 ∧ s.sha1 = v.sha1 ∧ s.md5 ≠ v.md5 ∧
      instrAlg .md5Step63 = .md5 ∧ instrAlg .sha1Finalize = .sha1 := by decide

theorem test_witness_DigestIsThatOfTheConcatenation :
    let s := small .done false .none []
    let ps : List (List Byte) := [[0x48#8, 0x65#8], [], [0x6c#8, 0x6c#8, 0x6f#8]]
    s.md5.fault = false ∧ s.md5.cause = .none ∧ s.md5.run = none ∧ s.sha1.fault = false ∧ s.sha1.cause = .none ∧
      s.sha1.run = none ∧ ps.flatten.length ≤ s.bufCap.val := by decide

theorem test_witness_ChunkBoundariesDoNotMatter_md5 :
    let s := small .done false .none []
    let ps : List (List Byte) := [[0x48#8, 0x65#8], [], [0x6c#8]]
    ∃ t u, execAll (.md5Create :: ps.map Instr.md5Append) s = some t ∧
      execAll [.md5Create, .md5Append ps.flatten] s = some u ∧ t.md5.fault = false ∧ u.md5.fault = false := ⟨_, _, rfl, rfl, rfl, rfl⟩

theorem test_witness_ChunkBoundariesDoNotMatter_sha1 :
    let s := small .done false .none []
    let ps : List (List Byte) := [[0x48#8, 0x65#8], [], [0x6c#8]]
    ∃ t u, execAll (.sha1Create :: ps.map Instr.sha1Append) s = some t ∧
      execAll [.sha1Create, .sha1Append ps.flatten] s = some u ∧ t.sha1.fault = false ∧ u.sha1.fault = false := ⟨_, _, rfl, rfl, rfl, rfl⟩

theorem test_witness_EveryStepKeepsTheInvariant_command :
    (smallIn .active false .none [0x61#8] [.command ⟨0x02#8, []⟩]).Inv ∧
      ∃ t, step (smallIn .active false .none [0x61#8] [.command ⟨0x02#8, []⟩]) = .next t := by
  refine ⟨?_, _, rfl⟩
  simp [State.Inv, Engine.Inv, smallIn, small, bufWf]

theorem test_witness_EveryStepKeepsTheInvariant_open_finalize :
    (created [0x61#8]).openMd5.Inv ∧ (created [0x61#8]).openSha1.Inv ∧
      ∃ t, step (created [0x61#8]).openMd5 = .next t := by
  refine ⟨?_, ?_, _, rfl⟩ <;>
    simp [State.Inv, Engine.Inv, Md5Run.Ok, Sha1Run.Ok, State.openMd5, State.openSha1, md5EnterBlock, sha1EnterBlock,
      created, small, bufWf, nblk, pad_length, zeroCount]

/-- Also for LengthWordsOfTheLastBlock. -/
theorem test_witness_PaddedMessageLayout :
    (List.replicate 55 0x61#8).length < 2 ^ 61 ∧ zeroCount 55 = 0 ∧ (List.replicate 56 0x61#8).length < 2 ^ 61 ∧
      56 < 57 ∧ 57 ≤ 56 + zeroCount 56 := by decide

theorem test_witness_ZeroCountIsTheLoopsCount :
    55 % 64 ≤ 55 ∧ 56 ≤ 56 % 64 ∧ 56 ≤ 63 % 64 ∧ 64 % 64 ≤ 55 ∧ (0 + 1 + 55 + 8) % 64 = 0 ∧ [0x61#8].length = 1 := by decide

/-- Messages at both ends of each range. -/
theorem test_witness_BlockCount :
    ([55, 56, 119, 120, 183, 184, 247] : List Nat).map (fun n => nblk (pad .le (List.replicate n 0x61#8))) =
      [1, 2, 2, 3, 3, 4, 4] := by decide +kernel

theorem test_witness_RotationMovesEveryBit :
    0 ≤ 31 ∧ 1 ≤ 31 ∧ 31 ≤ 31 ∧ 31 < 32 := by decide

theorem test_witness_ByteOrderHelpers :
    0 < 8 ∧ 7 < 8 := by decide

theorem test_witness_NonlinearFunctionsPerBit :
    0 < 32 ∧ 31 < 32 := by decide

/-- For Md5BlockLoad and Sha1BlockLoadAndExpansion. -/
theorem test_witness_block_loads :
    0 < (pad .le []).length / 64 ∧ 1 < (pad .be (List.replicate 56 0x61#8)).length / 64 ∧
      16 ≤ (16 : Fin 80).val ∧ 16 ≤ (79 : Fin 80).val := by decide +kernel

/-- For Md5Round1Steps to Md5Round4Steps. -/
theorem test_witness_md5_step_statements :
    ((created []).setMd5Run (some (md5AtEnd [] 0))).md5.run = some (md5AtEnd [] 0) := rfl

theorem test_witness_Md5LastStepLeavesTheBlock :
    (md5AtEnd (List.replicate 56 0x61#8) 0).blk + 1 < (md5AtEnd (List.replicate 56 0x61#8) 0).pmsg.length / 64 ∧
      (md5AtEnd [] 0).pmsg.length / 64 ≤ (md5AtEnd [] 0).blk + 1 := by decide +kernel

/-- For Sha1Stage0Steps to Sha1Stage3Steps. -/
theorem test_witness_sha1_step_statements :
    ((created []).setSha1Run (some (sha1AtEnd [] 0))).sha1.run = some (sha1AtEnd [] 0) := rfl

theorem test_witness_Sha1LastStepLeavesTheBlock :
    (sha1AtEnd (List.replicate 56 0x61#8) 0).blk + 1 < (sha1AtEnd (List.replicate 56 0x61#8) 0).pmsg.length / 64 ∧
      (sha1AtEnd [] 0).pmsg.length / 64 ≤ (sha1AtEnd [] 0).blk + 1 := by decide +kernel

theorem test_witness_StepsOutsideFinalizeStop :
    decode (.md5Step (BitVec.ofFin 63)) = .ok .md5Step63 ∧ decode (.sha1Step 79#7) = .ok .sha1Step79 ∧
      (small .active false .none []).md5.run = none ∧ (small .active false .none []).sha1.run = none := ⟨rfl, rfl, rfl, rfl⟩

/-- For Md5FinalizeIsItsMicroOperations and Sha1FinalizeIsItsMicroOperations. -/
theorem test_witness_FinalizeIsItsMicroOperations :
    let s := created [0x61#8]
    s.md5.phase = .active ∧ s.md5.fault = false ∧ s.md5.run = none ∧ s.sha1.phase = .active ∧ s.sha1.fault = false := by decide

/-- The first and last word, byte and digit. -/
theorem test_witness_HexIsTheHexOfTheDigestBytes :
    0 < 4 ∧ 3 < 4 ∧ 4 < 5 ∧ 0 < 8 ∧ 7 < 8 := by decide

theorem test_witness_AppendIsTheOnlyStore_empties :
    ∃ t, exec .md5Create (small .active false .none [0x61#8]) = .next t ∧ t.md5.buf = [] := ⟨_, rfl, rfl⟩

theorem test_witness_CapacityIsTheOnlyBoundOnData :
    let s := small .active false .none [0x61#8, 0x62#8]
    s.md5.buf.length + (List.replicate 6 0x00#8).length = s.bufCap.val ∧
      s.sha1.buf.length + (List.replicate 6 0x00#8).length = s.bufCap.val := by decide

theorem test_witness_FaultPriority_next :
    ∃ t, exec .md5Create (small .done true .invariant []) = .next t ∧ t.md5.cause = .invariant := ⟨_, rfl, rfl⟩

end Sys2Proof.Tests
end

section
/-! The scope rules: the rotation of R13, the byte order of R14 and the idle machine of R8. -/

namespace Sys2Proof.Machine

/-! ## Rotation (00_scope.md R13) -/

/-- The formula of R13 is the library's rotation, for the amounts R13 allows. -/
theorem rotl_eq_rotateLeft {x : Word} {n : Nat} (hn : n < 32) : rotl x n = x.rotateLeft n := by
  rw [rotl, BitVec.rotateLeft_def, Nat.mod_eq_of_lt hn]

@[simp] theorem rotl_zero (x : Word) : rotl x 0 = x := by
  have hgone : x >>> 32 = 0 := BitVec.ushiftRight_eq_zero (Nat.le_refl 32)
  simp [rotl, hgone]

/-- A bit moves up by `n`, and past bit 31 it comes in again at bit 0. -/
theorem getLsbD_rotl_add_mod {x : Word} {n j : Nat} (hn : n < 32) (hj : j < 32) :
    (rotl x n).getLsbD ((j + n) % 32) = x.getLsbD j := by
  rw [rotl_eq_rotateLeft hn, BitVec.getLsbD_rotateLeft_of_le hn]
  by_cases hwrap : j + n < 32
  · simp [Nat.mod_eq_of_lt hwrap, hwrap]
  · have hpos : (j + n) % 32 = j + n - 32 := by omega
    have hlow : j + n - 32 < n := by omega
    have hback : 32 - n + (j + n - 32) = j := by omega
    simp [hpos, hlow, hback]

/-- `ROM_S` holds the amounts of its table `SROW` (42_md5_compress.md R172). -/
theorem romS_mem_flatten_srow : ∀ i : Fin 64, romS i ∈ srow.flatten := by decide

/-- The amounts of `SROW`, in rising order. -/
theorem flatten_srow_subset :
    ∀ n ∈ srow.flatten, n ∈ [4, 5, 6, 7, 9, 10, 11, 12, 14, 15, 16, 17, 20, 21, 22, 23] := by decide

/-! ## Byte order (00_scope.md R14) -/

/-- The value of a concatenation; the low part fills the low `n` bits. -/
theorem toNat_append_eq_add {m n : Nat} (x : BitVec m) (y : BitVec n) :
    (x ++ y).toNat = 2 ^ n * x.toNat + y.toNat := by
  rw [BitVec.toNat_append, ← Nat.shiftLeft_add_eq_or_of_lt y.isLt, Nat.shiftLeft_eq, Nat.mul_comm]

theorem toNat_le32 (b0 b1 b2 b3 : Byte) :
    (le32 b0 b1 b2 b3).toNat =
      b0.toNat + 2 ^ 8 * b1.toNat + 2 ^ 16 * b2.toNat + 2 ^ 24 * b3.toNat := by
  simp only [le32, toNat_append_eq_add]
  omega

/-- The two byte orders are one definition read from the two ends. -/
theorem be32_eq_le32 (b0 b1 b2 b3 : Byte) : be32 b0 b1 b2 b3 = le32 b3 b2 b1 b0 := rfl

theorem be32Bytes_eq_reverse (w : Word) : be32Bytes w = (le32Bytes w).reverse := rfl

theorem toNat_wordByte (w : Word) (m : Nat) :
    (wordByte w m).toNat = w.toNat / 2 ^ (8 * m) % 2 ^ 8 := by
  rw [wordByte, BitVec.extractLsb'_toNat, Nat.shiftRight_eq_div_pow]

/-- Each byte is a digit in base `2 ^ 8` of the word's value, so it is the byte that went in. -/
@[simp] theorem le32Bytes_le32 (b0 b1 b2 b3 : Byte) :
    le32Bytes (le32 b0 b1 b2 b3) = [b0, b1, b2, b3] := by
  simp only [le32Bytes, List.cons.injEq, and_true, ← BitVec.toNat_inj, toNat_wordByte, toNat_le32]
  omega

@[simp] theorem be32Bytes_be32 (b0 b1 b2 b3 : Byte) :
    be32Bytes (be32 b0 b1 b2 b3) = [b0, b1, b2, b3] := by
  simp [be32_eq_le32, be32Bytes_eq_reverse]

/-- `bswap32` reads the bytes in one order and writes them in the other. -/
theorem le32Bytes_bswap32 (w : Word) : le32Bytes (bswap32 w) = be32Bytes w := by
  rw [bswap32, be32_eq_le32, le32Bytes_le32, be32Bytes]

@[simp] theorem length_le64Bytes (v : BitVec 64) : (le64Bytes v).length = 8 := by
  simp [le64Bytes]

theorem getElem?_le64Bytes (v : BitVec 64) {m : Nat} (hm : m < 8) :
    (le64Bytes v)[m]? = some (v.extractLsb' (8 * m) 8) := by
  simp [le64Bytes, dwordByte, List.getElem?_range hm]

/-- The big-endian byte `m` is the little-endian byte `7 - m`. -/
theorem be64Bytes_eq_reverse (v : BitVec 64) : be64Bytes v = (le64Bytes v).reverse := rfl

/-! ## The idle machine (00_scope.md R8) -/

/-- With no FINALIZE open and nothing sent there is nothing to take. -/
theorem fetch_idle {s : State} (hq : s.Quiescent) (hin : s.inbox = []) : fetch s = (.idle, s) := by
  obtain ⟨hmd5, hsha1⟩ := hq
  simp only [fetch, hmd5, hsha1, hin]

end Sys2Proof.Machine
end

section
/-! The obligations of the scope rules. -/

namespace Sys2Proof.Proofs

open Sys2Proof.Machine

/-- Settles O35: bit by bit through the library's rotation, with the bits that wrap round as a case of their own. -/
theorem rotationMovesEveryBit : Obligations.RotationMovesEveryBit := by
  intro x n hn
  exact ⟨fun j hj => getLsbD_rotl_add_mod (by omega) hj, rotl_zero x, fun _ => rfl,
    fun i => flatten_srow_subset _ (romS_mem_flatten_srow i)⟩

/-- Settles O36: the values and bytes of `le32`, and from them those of `be32` and `bswap32`. -/
theorem byteOrderHelpers : Obligations.ByteOrderHelpers := by
  refine ⟨fun b0 b1 b2 b3 => ⟨toNat_le32 .., ?_, le32Bytes_le32 .., be32Bytes_be32 ..⟩,
    fun w => ⟨rfl, rfl, rfl, le32Bytes_bswap32 w⟩,
    fun v => ⟨be64Bytes_eq_reverse v, length_le64Bytes v, fun _ hm => getElem?_le64Bytes v hm⟩⟩
  rw [be32_eq_le32, toNat_le32]
  omega

/-- Settles O6: `fetch` takes nothing and leaves the state as it is. -/
theorem idleStepChangesNothing : Obligations.IdleStepChangesNothing := by
  intro s hq hin
  simp only [step, fetch_idle hq hin]

end Sys2Proof.Proofs
end

section
/-! One engine at a time: the four commands as one operation of an engine, what a micro-operation does to its engine,
and the frame of every instruction (10_state.md R36, 60_exceptions.md R264). -/

namespace Sys2Proof.Machine

/-! ## The commands of one engine -/

/-- The parameters in which the commands of the two engines differ (40_commands.md R110 to R117). -/
structure Algo (H : Type) where
  iv : H
  order : ByteOrder
  compress : H → List Byte → H
  digest : H → List Byte
  hex : H → List Byte

def md5Algo : Algo Md5Words := ⟨md5Iv, .le, md5Compress, md5DigestBytes, md5Hex⟩

def sha1Algo : Algo Sha1Words := ⟨sha1Iv, .be, sha1Compress, sha1DigestBytes, sha1Hex⟩

section
variable {H R : Type} {A : Algo H} {cap : Nat} {p : List Byte} {op : Op} {e : Engine H R}
  {a : Answer (Engine H R)}

/-- The body of an operation on an engine with algorithm `A`. -/
def Algo.body (A : Algo H) (cap : Nat) (p : List Byte) : Op → Engine H R → Answer (Engine H R)
  | .create => Engine.createBody A.iv
  | .append => Engine.appendBody cap p
  | .finalize => Engine.finalizeBody A.order A.compress A.digest
  | .render => Engine.renderBody A.hex

/-- The digest state of a message whose blocks are compressed from `h` on (41_padding_sequencing.md R146). -/
def Algo.digestFrom (A : Algo H) (h : H) (msg : List Byte) : H :=
  (blocksOf (pad A.order msg)).foldl A.compress h

/-- The end of a FINALIZE that started from `h` (40_commands.md R114, R115). -/
def Engine.close (A : Algo H) (h : H) (e : Engine H R) : Answer (Engine H R) :=
  e.finish (A.digestFrom h e.buf) (A.digest (A.digestFrom h e.buf))

/-- What an engine answers an operation with. -/
def Engine.answer (A : Algo H) (cap : Nat) (p : List Byte) (op : Op) (e : Engine H R) : Answer (Engine H R) :=
  e.command op (A.body cap p op)

/-- Everything the answer to an operation can be: the prologue's two answers, and the completion of each operation in
the phase that allows it. -/
inductive Engine.Answered (A : Algo H) (cap : Nat) (p : List Byte) (e : Engine H R) :
    Op → Answer (Engine H R) → Prop
  | refused (op : Op) (hf : e.fault = true) : Answered A cap p e op e.refuse
  | raised (op : Op) (c : Cause) (hf : e.fault = false) (hc : c ≠ .none) : Answered A cap p e op (e.raiseFault c)
  | created (hf : e.fault = false) : Answered A cap p e .create (Engine.createBody A.iv e)
  | appended (hf : e.fault = false) (hp : e.phase = .active) (hfit : e.buf.length + p.length ≤ cap) :
      Answered A cap p e .append ⟨{ e with buf := bufAppend e.buf p }, true, []⟩
  | finalized (hf : e.fault = false) (hp : e.phase = .active) : Answered A cap p e .finalize (e.close A e.h)
  | rendered (hf : e.fault = false) (hp : e.phase = .done) : Answered A cap p e .render (Engine.renderBody A.hex e)

theorem phaseFault_ne_none {q : Phase} {c : Cause} (h : phaseFault op q = some c) : c ≠ .none := by
  rintro rfl
  cases op <;> cases q <;> simp [phaseFault] at h

/-- APPEND and FINALIZE are legal in ACTIVE only (40_commands.md R118). -/
theorem phase_eq_active_of_phaseFault {q : Phase} (hop : op = .append ∨ op = .finalize)
    (h : phaseFault op q = none) : q = .active := by
  obtain rfl | rfl := hop <;> cases q <;> simp [phaseFault] at h ⊢

/-- RENDER is legal in DONE only (40_commands.md R118). -/
theorem phase_eq_done_of_phaseFault {q : Phase} (h : phaseFault .render q = none) : q = .done := by
  cases q <;> simp [phaseFault] at h ⊢

theorem Engine.answered (A : Algo H) (cap : Nat) (p : List Byte) (op : Op) (e : Engine H R) :
    Engine.Answered A cap p e op (e.answer A cap p op) := by
  rw [Engine.answer]
  obtain ⟨hf, ha⟩ | ⟨c, hf, hc, ha⟩ | ⟨hf, hp, ha⟩ := Engine.command_cases op (A.body cap p op) e <;> rw [ha]
  · exact .refused op hf
  · exact .raised op c hf (phaseFault_ne_none hc)
  · cases op with
    | create => exact .created hf
    | append =>
      obtain ⟨-, hb⟩ | ⟨hfit, hb⟩ := Engine.appendBody_cases cap p e <;> rw [Algo.body, hb]
      · exact .raised .append .capacity hf (by decide)
      · exact .appended hf (phase_eq_active_of_phaseFault (.inl rfl) hp) hfit
    | finalize =>
      rw [Algo.body, Engine.finalizeBody_eq]
      exact .finalized hf (phase_eq_active_of_phaseFault (.inr rfl) hp)
    | render => exact .rendered hf (phase_eq_done_of_phaseFault hp)

/-- FINALIZE in ACTIVE with no fault recorded. -/
theorem Engine.answer_finalize (hf : e.fault = false) (hp : e.phase = .active) :
    e.answer A cap p .finalize = e.close A e.h := by
  rw [Engine.answer, Engine.command_runs hf (by rw [hp]; rfl), Algo.body, Engine.finalizeBody_eq]
  rfl

end

theorem exec_commandInstr_md5 (op : Op) (p : List Byte) (s : State) :
    exec (commandInstr .md5 op p) s = .next (s.answerMd5 (s.md5.answer md5Algo s.bufCap.val p op)) := by
  cases op <;> rfl

theorem exec_commandInstr_sha1 (op : Op) (p : List Byte) (s : State) :
    exec (commandInstr .sha1 op p) s = .next (s.answerSha1 (s.sha1.answer sha1Algo s.bufCap.val p op)) := by
  cases op <;> rfl

@[simp] theorem instrAlg_commandInstr (alg : Alg) (op : Op) (p : List Byte) :
    instrAlg (commandInstr alg op p) = alg := by
  cases alg <;> cases op <;> simp [instrAlg, commandInstr, encode, algOfWord]

/-- Every instruction is a command of an engine or a micro-operation of a sequencer. -/
theorem instr_cases (i : Instr) :
    (∃ alg op p, i = commandInstr alg op p) ∨ (∃ j, i = md5StepInstr j) ∨ ∃ t, i = sha1StepInstr t := by
  obtain ⟨hi, -⟩ | ⟨p, hi, -⟩ | ⟨hi, -⟩ | ⟨hi, -⟩ | ⟨hi, -⟩ | ⟨p, hi, -⟩ | ⟨hi, -⟩ | ⟨hi, -⟩ | ⟨j, hi, -⟩ |
    ⟨t, hi, -⟩ := exec_cases i State.reset
  · exact .inl ⟨.md5, .create, [], hi⟩
  · exact .inl ⟨.md5, .append, p, hi⟩
  · exact .inl ⟨.md5, .finalize, [], hi⟩
  · exact .inl ⟨.md5, .render, [], hi⟩
  · exact .inl ⟨.sha1, .create, [], hi⟩
  · exact .inl ⟨.sha1, .append, p, hi⟩
  · exact .inl ⟨.sha1, .finalize, [], hi⟩
  · exact .inl ⟨.sha1, .render, [], hi⟩
  · exact .inr (.inl ⟨j, hi⟩)
  · exact .inr (.inr ⟨t, hi⟩)

/-- The instructions of the MD5 engine. -/
theorem instr_md5_cases {i : Instr} (h : instrAlg i = .md5) :
    (∃ op p, i = commandInstr .md5 op p) ∨ ∃ j, i = md5StepInstr j := by
  obtain ⟨alg, op, p, rfl⟩ | ⟨j, rfl⟩ | ⟨t, rfl⟩ := instr_cases i
  · rw [instrAlg_commandInstr] at h
    exact .inl ⟨op, p, by rw [h]⟩
  · exact .inr ⟨j, rfl⟩
  · simp at h

/-- The instructions of the SHA-1 engine. -/
theorem instr_sha1_cases {i : Instr} (h : instrAlg i = .sha1) :
    (∃ op p, i = commandInstr .sha1 op p) ∨ ∃ t, i = sha1StepInstr t := by
  obtain ⟨alg, op, p, rfl⟩ | ⟨j, rfl⟩ | ⟨t, rfl⟩ := instr_cases i
  · rw [instrAlg_commandInstr] at h
    exact .inl ⟨op, p, by rw [h]⟩
  · simp at h
  · exact .inr ⟨t, rfl⟩

/-! ## The micro-operations of one engine -/

section
variable {H R : Type}

/-- Everything a micro-operation can make of its engine, with the responses it adds; `last` says that its index is the
last of the block, at which the feed-forward runs (10_state.md R33; log 5). -/
inductive Engine.Micro (last : Prop) (e : Engine H R) : Engine H R → List Resp → Prop
  | advanced (r : R) (hl : ¬ last) : Micro last e { e with run := some r } []
  | nextBlock (h : H) (r : R) (hl : last) : Micro last e { e with h := h, run := some r } []
  | finished (h : H) (d : List Byte) (hl : last) : Micro last e (e.finish h d).engine [(e.finish h d).resp]

theorem Engine.Micro.length_le {last : Prop} {e e' : Engine H R} {rs : List Resp}
    (h : Engine.Micro last e e' rs) : rs.length ≤ 1 := by
  cases h <;> simp

end

/-- The MD5 engine takes a new state, and the responses go to the host. -/
def State.putMd5 (s : State) (e : Md5Engine) (rs : List Resp) : State :=
  { s with md5 := e, outbox := s.outbox ++ rs }

/-- The SHA-1 engine takes a new state, and the responses go to the host. -/
def State.putSha1 (s : State) (e : Sha1Engine) (rs : List Resp) : State :=
  { s with sha1 := e, outbox := s.outbox ++ rs }

theorem State.answerMd5_eq_putMd5 (s : State) (a : Answer Md5Engine) :
    s.answerMd5 a = s.putMd5 a.engine [a.resp] := rfl

theorem State.answerSha1_eq_putSha1 (s : State) (a : Answer Sha1Engine) :
    s.answerSha1 a = s.putSha1 a.engine [a.resp] := rfl

theorem State.putMd5_nil (s : State) (e : Md5Engine) : s.putMd5 e [] = { s with md5 := e } := by
  simp [State.putMd5]

theorem State.putSha1_nil (s : State) (e : Sha1Engine) : s.putSha1 e [] = { s with sha1 := e } := by
  simp [State.putSha1]

/-- With no FINALIZE open there are no working registers (log 6). -/
theorem md5StepOp_of_run_none {j : Fin 64} {s : State} (h : s.md5.run = none) :
    md5StepOp j s = .fault .stepOutsideFinalize := by
  simp [md5StepOp, h]

/-- With no FINALIZE open there are no working registers (log 6). -/
theorem sha1StepOp_of_run_none {t : Fin 80} {s : State} (h : s.sha1.run = none) :
    sha1StepOp t s = .fault .stepOutsideFinalize := by
  simp [sha1StepOp, h]

/-- What a micro-operation of MD5 makes of its engine is a matter of that engine alone. -/
theorem md5StepOp_micro (j : Fin 64) {e : Md5Engine} {r : Md5Run} (hr : e.run = some r) :
    ∃ e' rs, Engine.Micro (j = 63) e e' rs ∧ ∀ s : State, s.md5 = e → md5StepOp j s = .next (s.putMd5 e' rs) := by
  by_cases hj : j.val + 1 < 64
  · refine ⟨_, [], .advanced { r with work := md5Step r.x r.work j, step := ⟨j.val + 1, hj⟩ } (by omega), ?_⟩
    rintro s rfl
    simp [md5StepOp, hr, hj, State.putMd5_nil, State.setMd5Run]
  · have hlast : j = 63 := by omega
    by_cases hb : r.blk + 1 < nblk r.pmsg
    · refine ⟨_, [], .nextBlock (md5Feed e.h (md5Step r.x r.work j))
        (md5EnterBlock (md5Feed e.h (md5Step r.x r.work j)) r.pmsg (r.blk + 1)) hlast, ?_⟩
      rintro s rfl
      simp [md5StepOp, hr, hj, State.leaveMd5Block, hb, State.putMd5_nil]
    · refine ⟨_, _, .finished (md5Feed e.h (md5Step r.x r.work j))
        (md5DigestBytes (md5Feed e.h (md5Step r.x r.work j))) hlast, ?_⟩
      rintro s rfl
      simp [md5StepOp, hr, hj, State.leaveMd5Block, hb, State.answerMd5_eq_putMd5]

/-- What a micro-operation of SHA-1 makes of its engine is a matter of that engine alone. -/
theorem sha1StepOp_micro (t : Fin 80) {e : Sha1Engine} {r : Sha1Run} (hr : e.run = some r) :
    ∃ e' rs, Engine.Micro (t = 79) e e' rs ∧
      ∀ s : State, s.sha1 = e → sha1StepOp t s = .next (s.putSha1 e' rs) := by
  by_cases ht : t.val + 1 < 80
  · refine ⟨_, [], .advanced { r with
      work := sha1Step r.w r.work t, temp := sha1Temp r.w r.work t, step := ⟨t.val + 1, ht⟩ } (by omega), ?_⟩
    rintro s rfl
    simp [sha1StepOp, hr, ht, State.putSha1_nil, State.setSha1Run, sha1Step]
  · have hlast : t = 79 := by omega
    by_cases hb : r.blk + 1 < nblk r.pmsg
    · refine ⟨_, [], .nextBlock (sha1Feed e.h (sha1Step r.w r.work t))
        (sha1EnterBlock (sha1Feed e.h (sha1Step r.w r.work t)) r.pmsg (r.blk + 1)) hlast, ?_⟩
      rintro s rfl
      simp [sha1StepOp, hr, ht, State.leaveSha1Block, hb, State.putSha1_nil, sha1Step]
    · refine ⟨_, _, .finished (sha1Feed e.h (sha1Step r.w r.work t))
        (sha1DigestBytes (sha1Feed e.h (sha1Step r.w r.work t))) hlast, ?_⟩
      rintro s rfl
      simp [sha1StepOp, hr, ht, State.leaveSha1Block, hb, State.answerSha1_eq_putSha1, sha1Step]

/-! ## Locality -/

/-- An instruction of MD5 acts on the MD5 engine and the responses, in a way that engine and the capacity fix. -/
theorem exec_md5_local {i : Instr} (hi : instrAlg i = .md5) (cap : Fin (2 ^ 61)) (e : Md5Engine) :
    (∀ s : State, s.bufCap = cap → s.md5 = e → exec i s = .fault .stepOutsideFinalize) ∨
      ∃ e' rs, rs.length ≤ 1 ∧ ∀ s : State, s.bufCap = cap → s.md5 = e → exec i s = .next (s.putMd5 e' rs) := by
  obtain ⟨op, p, rfl⟩ | ⟨j, rfl⟩ := instr_md5_cases hi
  · refine .inr ⟨(e.answer md5Algo cap.val p op).engine, [(e.answer md5Algo cap.val p op).resp], le_rfl, ?_⟩
    rintro s rfl rfl
    exact exec_commandInstr_md5 op p s
  · cases hr : e.run with
    | none =>
      refine .inl ?_
      rintro s - rfl
      rw [exec_md5StepInstr, md5StepOp_of_run_none hr]
    | some r =>
      obtain ⟨e', rs, hm, hs⟩ := md5StepOp_micro j hr
      exact .inr ⟨e', rs, hm.length_le, fun s _ he => by rw [exec_md5StepInstr, hs s he]⟩

/-- An instruction of SHA-1 acts on the SHA-1 engine and the responses, in a way that engine and the capacity fix. -/
theorem exec_sha1_local {i : Instr} (hi : instrAlg i = .sha1) (cap : Fin (2 ^ 61)) (e : Sha1Engine) :
    (∀ s : State, s.bufCap = cap → s.sha1 = e → exec i s = .fault .stepOutsideFinalize) ∨
      ∃ e' rs, rs.length ≤ 1 ∧ ∀ s : State, s.bufCap = cap → s.sha1 = e → exec i s = .next (s.putSha1 e' rs) := by
  obtain ⟨op, p, rfl⟩ | ⟨t, rfl⟩ := instr_sha1_cases hi
  · refine .inr ⟨(e.answer sha1Algo cap.val p op).engine, [(e.answer sha1Algo cap.val p op).resp], le_rfl, ?_⟩
    rintro s rfl rfl
    exact exec_commandInstr_sha1 op p s
  · cases hr : e.run with
    | none =>
      refine .inl ?_
      rintro s - rfl
      rw [exec_sha1StepInstr, sha1StepOp_of_run_none hr]
    | some r =>
      obtain ⟨e', rs, hm, hs⟩ := sha1StepOp_micro t hr
      exact .inr ⟨e', rs, hm.length_le, fun s _ he => by rw [exec_sha1StepInstr, hs s he]⟩

/-- The next state of an instruction of MD5 differs in the MD5 engine and the responses only. -/
theorem exec_md5_frame {i : Instr} {s t : State} (hi : instrAlg i = .md5) (h : exec i s = .next t) :
    ∃ e' rs, t = s.putMd5 e' rs := by
  obtain hf | ⟨e', rs, -, hn⟩ := exec_md5_local hi s.bufCap s.md5
  · simp [hf s rfl rfl] at h
  · obtain rfl := Host.Outcome.next.inj ((hn s rfl rfl).symm.trans h)
    exact ⟨e', rs, rfl⟩

/-- The next state of an instruction of SHA-1 differs in the SHA-1 engine and the responses only. -/
theorem exec_sha1_frame {i : Instr} {s t : State} (hi : instrAlg i = .sha1) (h : exec i s = .next t) :
    ∃ e' rs, t = s.putSha1 e' rs := by
  obtain hf | ⟨e', rs, -, hn⟩ := exec_sha1_local hi s.bufCap s.sha1
  · simp [hf s rfl rfl] at h
  · obtain rfl := Host.Outcome.next.inj ((hn s rfl rfl).symm.trans h)
    exact ⟨e', rs, rfl⟩

end Sys2Proof.Machine
end

section
/-! What an instruction does to the fault and the digest state of an engine (10_state.md R25, R29), and the invariant of
an engine through the operations of a command (10_state.md R26, R37). -/

namespace Sys2Proof.Machine

/-! ## Who writes what -/

section
variable {H R : Type} {A : Algo H} {cap : Nat} {p : List Byte} {op : Op} {last : Prop} {e e' : Engine H R}
  {a : Answer (Engine H R)} {rs : List Resp}

/-- A recorded fault is still recorded, with the same cause (10_state.md R29). -/
def Engine.KeepsFault (e e' : Engine H R) : Prop := e.fault = true → e'.fault = true ∧ e'.cause = e.cause

theorem Engine.KeepsFault.refl (e : Engine H R) : e.KeepsFault e := fun hf => ⟨hf, rfl⟩

/-- Where no fault is recorded there is none to keep. -/
theorem Engine.KeepsFault.of_fault_eq_false (hf : e.fault = false) : e.KeepsFault e' := fun ht => by simp [hf] at ht

theorem Engine.Answered.keepsFault (h : Engine.Answered A cap p e op a) : e.KeepsFault a.engine := by
  cases h with
  | refused => exact .refl e
  | raised _ _ hf | created hf | appended hf | finalized hf | rendered hf => exact .of_fault_eq_false hf

theorem Engine.Micro.keepsFault (h : Engine.Micro last e e' rs) : e.KeepsFault e' := by
  cases h <;> exact fun hf => ⟨hf, rfl⟩

theorem Engine.illegal_keepsFault (e : Engine H R) : e.KeepsFault e.illegal.engine := by
  obtain ⟨-, he⟩ | ⟨hf, -⟩ := e.illegal_cases
  · rw [he]
    exact .refl e
  · exact .of_fault_eq_false hf

theorem Engine.Answered.op_of_h_ne (h : Engine.Answered A cap p e op a) (hne : a.engine.h ≠ e.h) :
    op = .create ∨ op = .finalize ∧ e.phase = .active := by
  cases h with
  | created => exact .inl rfl
  | finalized _ hp => exact .inr ⟨rfl, hp⟩
  | refused | raised | appended | rendered => exact absurd rfl hne

theorem Engine.Micro.last_of_h_ne (h : Engine.Micro last e e' rs) (hne : e'.h ≠ e.h) : last := by
  cases h with
  | advanced => exact absurd rfl hne
  | nextBlock _ _ hl | finished _ _ hl => exact hl

end

/-- Everything an instruction can make of the MD5 engine. -/
theorem exec_md5_engine {i : Instr} {s t : State} (h : exec i s = .next t) :
    t.md5 = s.md5 ∨
      (∃ op p a, i = commandInstr .md5 op p ∧ Engine.Answered md5Algo s.bufCap.val p s.md5 op a ∧ t.md5 = a.engine) ∨
      (∃ j r rs, i = md5StepInstr j ∧ s.md5.run = some r ∧ Engine.Micro (j = 63) s.md5 t.md5 rs) := by
  cases hi : instrAlg i with
  | sha1 =>
    obtain ⟨e', rs, rfl⟩ := exec_sha1_frame hi h
    exact .inl rfl
  | md5 =>
    obtain ⟨op, p, rfl⟩ | ⟨j, rfl⟩ := instr_md5_cases hi
    · rw [exec_commandInstr_md5] at h
      obtain rfl := Host.Outcome.next.inj h
      exact .inr (.inl ⟨op, p, _, rfl, s.md5.answered .., rfl⟩)
    · rw [exec_md5StepInstr] at h
      cases hr : s.md5.run with
      | none => simp [md5StepOp_of_run_none hr] at h
      | some r =>
        obtain ⟨e', rs, hm, hs⟩ := md5StepOp_micro j hr
        rw [hs s rfl] at h
        obtain rfl := Host.Outcome.next.inj h
        exact .inr (.inr ⟨j, r, rs, rfl, rfl, hm⟩)

/-- Everything an instruction can make of the SHA-1 engine. -/
theorem exec_sha1_engine {i : Instr} {s t : State} (h : exec i s = .next t) :
    t.sha1 = s.sha1 ∨
      (∃ op p a, i = commandInstr .sha1 op p ∧ Engine.Answered sha1Algo s.bufCap.val p s.sha1 op a ∧
        t.sha1 = a.engine) ∨
      (∃ j r rs, i = sha1StepInstr j ∧ s.sha1.run = some r ∧ Engine.Micro (j = 79) s.sha1 t.sha1 rs) := by
  cases hi : instrAlg i with
  | md5 =>
    obtain ⟨e', rs, rfl⟩ := exec_md5_frame hi h
    exact .inl rfl
  | sha1 =>
    obtain ⟨op, p, rfl⟩ | ⟨j, rfl⟩ := instr_sha1_cases hi
    · rw [exec_commandInstr_sha1] at h
      obtain rfl := Host.Outcome.next.inj h
      exact .inr (.inl ⟨op, p, _, rfl, s.sha1.answered .., rfl⟩)
    · rw [exec_sha1StepInstr] at h
      cases hr : s.sha1.run with
      | none => simp [sha1StepOp_of_run_none hr] at h
      | some r =>
        obtain ⟨e', rs, hm, hs⟩ := sha1StepOp_micro j hr
        rw [hs s rfl] at h
        obtain rfl := Host.Outcome.next.inj h
        exact .inr (.inr ⟨j, r, rs, rfl, rfl, hm⟩)

/-- No instruction clears a recorded fault or changes its cause (60_exceptions.md R259). -/
theorem exec_keepsFault {i : Instr} {s t : State} (h : exec i s = .next t) :
    s.md5.KeepsFault t.md5 ∧ s.sha1.KeepsFault t.sha1 := by
  constructor
  · obtain he | ⟨op, p, a, -, ha, he⟩ | ⟨j, r, rs, -, -, hm⟩ := exec_md5_engine h
    · rw [he]
      exact .refl _
    · rw [he]
      exact ha.keepsFault
    · exact hm.keepsFault
  · obtain he | ⟨op, p, a, -, ha, he⟩ | ⟨j, r, rs, -, -, hm⟩ := exec_sha1_engine h
    · rw [he]
      exact .refl _
    · rw [he]
      exact ha.keepsFault
    · exact hm.keepsFault

/-- The writers of `MD5.H` (10_state.md R25), and what they find there. -/
theorem md5_h_writer {i : Instr} {s t : State} (h : exec i s = .next t) (hne : t.md5.h ≠ s.md5.h) :
    i = .md5Create ∨ (i = .md5Finalize ∧ s.md5.phase = .active) ∨ (i = .md5Step63 ∧ s.md5.run ≠ none) := by
  obtain he | ⟨op, p, a, rfl, ha, he⟩ | ⟨j, r, rs, rfl, hr, hm⟩ := exec_md5_engine h
  · exact absurd (by rw [he]) hne
  · obtain rfl | ⟨rfl, hp⟩ := ha.op_of_h_ne (he ▸ hne)
    · exact .inl rfl
    · exact .inr (.inl ⟨rfl, hp⟩)
  · obtain rfl := hm.last_of_h_ne hne
    exact .inr (.inr ⟨rfl, by simp [hr]⟩)

/-- The writers of `SHA1.H` (10_state.md R25), and what they find there. -/
theorem sha1_h_writer {i : Instr} {s t : State} (h : exec i s = .next t) (hne : t.sha1.h ≠ s.sha1.h) :
    i = .sha1Create ∨ (i = .sha1Finalize ∧ s.sha1.phase = .active) ∨ (i = .sha1Step79 ∧ s.sha1.run ≠ none) := by
  obtain he | ⟨op, p, a, rfl, ha, he⟩ | ⟨j, r, rs, rfl, hr, hm⟩ := exec_sha1_engine h
  · exact absurd (by rw [he]) hne
  · obtain rfl | ⟨rfl, hp⟩ := ha.op_of_h_ne (he ▸ hne)
    · exact .inl rfl
    · exact .inr (.inl ⟨rfl, hp⟩)
  · obtain rfl := hm.last_of_h_ne hne
    exact .inr (.inr ⟨rfl, by simp [hr]⟩)

/-! ## The invariant of an engine -/

section
variable {H R : Type} {A : Algo H} {cap : Nat} {p : List Byte} {op : Op} {iv : H} {ok : Engine H R → R → Prop}
  {e : Engine H R} {a : Answer (Engine H R)}

theorem Engine.inv_afterReset (h : H) : (Engine.afterReset h : Engine H R).Inv cap iv ok :=
  ⟨bufWf_nil cap, ⟨fun _ => rfl, fun _ => rfl⟩, fun _ => rfl, nofun, nofun⟩

theorem Engine.Inv.raiseFault {c : Cause} (hinv : e.Inv cap iv ok) (hr : e.run = none) (hc : c ≠ .none) :
    (e.raiseFault c).engine.Inv cap iv ok := by
  obtain ⟨hwf, -, hempty, hiv, -⟩ := hinv
  exact ⟨hwf, ⟨nofun, fun h => absurd h hc⟩, hempty, hiv, fun r h => by simp [hr] at h⟩

/-- The end of FINALIZE, by the command or by the last micro-operation: the buffer is empty and the phase DONE. -/
theorem Engine.Inv.close (hinv : e.Inv cap iv ok) (A : Algo H) (h : H) : (e.close A h).engine.Inv cap iv ok := by
  obtain ⟨-, hcause, -, -, -⟩ := hinv
  exact ⟨bufWf_nil cap, hcause, fun _ => rfl, nofun, nofun⟩

theorem Engine.Inv.ok_of_run {r : R} (hinv : e.Inv cap iv ok) (hr : e.run = some r) : ok e r := by
  obtain ⟨-, -, -, -, hopen⟩ := hinv
  obtain ⟨-, -, hok⟩ := hopen r hr
  exact hok

/-- An engine with a FINALIZE open stays in the invariant when its new working state is one it can have. -/
theorem Engine.Inv.setRun {r r' : R} {h : H} (hinv : e.Inv cap iv ok) (hr : e.run = some r)
    (hok : ok { e with h := h, run := some r' } r') :
    Engine.Inv cap iv ok { e with h := h, run := some r' } := by
  obtain ⟨hwf, hcause, hempty, -, hopen⟩ := hinv
  obtain ⟨hactive, hfault, -⟩ := hopen r hr
  refine ⟨hwf, hcause, hempty, nofun, ?_⟩
  rintro _ ⟨⟩
  exact ⟨hactive, hfault, hok⟩

/-- Every answer to a command keeps the invariant of an engine with no FINALIZE open. -/
theorem Engine.Inv.answered (hinv : e.Inv cap A.iv ok) (hr : e.run = none)
    (ha : Engine.Answered A cap p e op a) : a.engine.Inv cap A.iv ok := by
  cases ha with
  | refused | rendered => exact hinv
  | raised _ _ _ hc => exact hinv.raiseFault hr hc
  | finalized => exact hinv.close A e.h
  | created =>
    obtain ⟨-, hcause, -, -, -⟩ := hinv
    exact ⟨bufWf_nil cap, hcause, fun _ => rfl, fun _ _ => rfl, nofun⟩
  | appended hf hp hfit =>
    obtain ⟨-, hcause, -, hiv, hopen⟩ := hinv
    exact ⟨bufAppend_wf hfit, hcause, fun h => absurd hp h, hiv, fun r h => by simp [hr] at h⟩

theorem Engine.Inv.illegal (hinv : e.Inv cap iv ok) (hr : e.run = none) : e.illegal.engine.Inv cap iv ok := by
  obtain ⟨-, he⟩ | ⟨-, he⟩ := e.illegal_cases <;> rw [he]
  · exact hinv
  · exact hinv.raiseFault hr (by decide)

end

/-- A command keeps the invariant between commands. -/
theorem State.Inv.exec_command {s t : State} {alg : Alg} {op : Op} {p : List Byte} (hinv : s.Inv) (hq : s.Quiescent)
    (h : exec (commandInstr alg op p) s = .next t) : t.Inv := by
  obtain ⟨hmd5, hsha1⟩ := hinv
  obtain ⟨hrun5, hrun1⟩ := hq
  cases alg with
  | md5 =>
    rw [exec_commandInstr_md5] at h
    obtain rfl := Host.Outcome.next.inj h
    exact ⟨hmd5.answered (A := md5Algo) hrun5 (s.md5.answered ..), hsha1⟩
  | sha1 =>
    rw [exec_commandInstr_sha1] at h
    obtain rfl := Host.Outcome.next.inj h
    exact ⟨hmd5, hsha1.answered (A := sha1Algo) hrun1 (s.sha1.answered ..)⟩

/-- An illegal command word keeps the invariant between commands. -/
theorem State.Inv.illegalCommand {s : State} (hinv : s.Inv) (hq : s.Quiescent) (w : Byte) :
    (s.illegalCommand w).Inv := by
  obtain ⟨hmd5, hsha1⟩ := hinv
  obtain ⟨hrun5, hrun1⟩ := hq
  unfold State.illegalCommand
  cases algOfWord w with
  | md5 => exact ⟨hmd5.illegal hrun5, hsha1⟩
  | sha1 => exact ⟨hmd5, hsha1.illegal hrun1⟩

theorem State.inv_applyReset (s : State) : s.applyReset.Inv :=
  ⟨Engine.inv_afterReset _, Engine.inv_afterReset _⟩

theorem State.illegalCommand_keepsFault (s : State) (w : Byte) :
    s.md5.KeepsFault (s.illegalCommand w).md5 ∧ s.sha1.KeepsFault (s.illegalCommand w).sha1 := by
  unfold State.illegalCommand
  cases algOfWord w with
  | md5 => exact ⟨s.md5.illegal_keepsFault, .refl _⟩
  | sha1 => exact ⟨.refl _, s.sha1.illegal_keepsFault⟩

end Sys2Proof.Machine
end

section
/-! The sequencers inside FINALIZE (10_state.md R33): what one micro-operation makes of working state that an open
FINALIZE can have, and what their run comes to. -/

namespace Sys2Proof.Machine

/-! ## One more step, one more block -/

theorem foldl_take_finRange_succ {H : Type} {n : Nat} (f : H → Fin n → H) (h : H) (i : Fin n) :
    ((List.finRange n).take (i.val + 1)).foldl f h = f (((List.finRange n).take i.val).foldl f h) i := by
  rw [List.take_add_one]
  simp

theorem foldl_take_blocksOf_succ {H : Type} {p : List Byte} {blk : Nat} (compress : H → List Byte → H) (h : H)
    (hblk : blk < nblk p) :
    ((blocksOf p).take (blk + 1)).foldl compress h =
      compress (((blocksOf p).take blk).foldl compress h) (blockAt p blk) := by
  rw [blocksOf_take_succ hblk, List.foldl_append]
  rfl

theorem take_blocksOf_of_le {p : List Byte} {n : Nat} (h : nblk p ≤ n) : (blocksOf p).take n = blocksOf p :=
  List.take_of_length_le (by rwa [blocksOf_length])

/-- A padded message has at least one block (41_padding_sequencing.md R147). -/
theorem nblk_pad_pos (o : ByteOrder) (msg : List Byte) : 0 < nblk (pad o msg) := by
  have hlen := pad_length o msg
  unfold zeroCount at hlen
  unfold nblk
  omega

/-- A step that answers a next state leaves one step fewer to run. -/
theorem core_run_succ {m : Nat} {s t : State} (h : step s = .next t) : core.run (m + 1) s = core.run m t := by
  have hstep : core.step s = .next t := h
  simp only [Host.Core.run, hstep]

/-! ## MD5 -/

/-- `Md5Run.Ok` with the chain of blocks begun from any digest state. -/
def Md5Run.OkFrom (iv : Md5Words) (e : Md5Engine) (r : Md5Run) : Prop :=
  r.pmsg = pad .le e.buf ∧ r.blk < nblk r.pmsg ∧ r.x = md5Load (blockAt r.pmsg r.blk) ∧
    e.h = ((blocksOf r.pmsg).take r.blk).foldl md5Compress iv ∧
    r.work = ((List.finRange 64).take r.step.val).foldl (md5Step r.x) e.h

theorem Md5Run.ok_iff_okFrom (e : Md5Engine) (r : Md5Run) : r.Ok e ↔ r.OkFrom md5Iv e := Iff.rfl

/-- The micro-operations done. -/
def Md5Run.count (r : Md5Run) : Nat := 64 * r.blk + r.step.val

/-- The working state that a FINALIZE is opened with (`State.openMd5`). -/
theorem Md5Run.okFrom_open (e : Md5Engine) : (md5EnterBlock e.h (pad .le e.buf) 0).OkFrom e.h e :=
  ⟨rfl, nblk_pad_pos .le e.buf, rfl, rfl, rfl⟩

/-- The sequencer takes its own index's step, or starts the next block, or ends FINALIZE after the last step of the last
block. -/
theorem md5StepOp_of_okFrom {iv : Md5Words} {s : State} {r : Md5Run} (hr : s.md5.run = some r)
    (hok : r.OkFrom iv s.md5) :
    (∃ h r', md5StepOp r.step s = .next { s with md5 := { s.md5 with h := h, run := some r' } } ∧
        r'.OkFrom iv { s.md5 with h := h, run := some r' } ∧ r'.count = r.count + 1) ∨
      (r.count + 1 = 64 * nblk (pad .le s.md5.buf) ∧
        md5StepOp r.step s = .next (s.answerMd5 (s.md5.close md5Algo iv))) := by
  obtain ⟨hpmsg, hblk, hx, hh, hwork⟩ := hok
  have hstep : md5Step r.x r.work r.step = ((List.finRange 64).take (r.step.val + 1)).foldl (md5Step r.x) s.md5.h := by
    rw [foldl_take_finRange_succ, ← hwork]
  obtain ⟨hnone, -⟩ | ⟨r₀, hr₀, hlt, ho⟩ | ⟨r₀, hr₀, hlast, ho⟩ := md5StepOp_cases r.step s
  · simp [hr] at hnone
  · obtain rfl : r = r₀ := by simpa [hr] using hr₀
    exact .inl ⟨s.md5.h, _, ho, ⟨hpmsg, hblk, hx, hh, hstep⟩, rfl⟩
  · obtain rfl : r = r₀ := by simpa [hr] using hr₀
    have hlen : r.step.val + 1 = 64 := by omega
    have hfeed : md5Feed s.md5.h (md5Step r.x r.work r.step) =
        ((blocksOf r.pmsg).take (r.blk + 1)).foldl md5Compress iv := by
      rw [foldl_take_blocksOf_succ _ _ hblk, ← hh, hstep, hlen, List.take_of_length_le (by simp), hx]
      rfl
    rw [ho]
    obtain ⟨hnext, hl⟩ | ⟨hend, hl⟩ :=
      State.leaveMd5Block_cases s { r with work := md5Step r.x r.work r.step } <;> rw [hl]
    · refine .inl ⟨_, _, rfl, ⟨hpmsg, hnext, rfl, hfeed, rfl⟩, ?_⟩
      simp only [Md5Run.count, md5EnterBlock, Fin.val_zero]
      omega
    · have hall : r.blk + 1 = nblk (pad .le s.md5.buf) := by
        rw [← hpmsg]
        exact le_antisymm hblk (not_lt.1 hend)
      refine .inr ⟨by unfold Md5Run.count; omega, ?_⟩
      simp only [hfeed, Engine.close, Algo.digestFrom, md5Algo, hall, hpmsg, take_blocksOf_of_le le_rfl]

theorem step_of_md5Run {s : State} {r : Md5Run} (hr : s.md5.run = some r) : step s = md5StepOp r.step s := by
  simp [step, fetch, hr, exec_md5StepInstr]

/-- The micro-operations that an open FINALIZE still has to do end it. -/
theorem core_run_md5 (iv : Md5Words) (m : Nat) (s : State) (r : Md5Run) (hr : s.md5.run = some r)
    (hok : r.OkFrom iv s.md5) (hm : r.count + m = 64 * nblk (pad .le s.md5.buf)) :
    core.run m s = .next (s.answerMd5 (s.md5.close md5Algo iv)) := by
  induction m generalizing s r with
  | zero =>
    obtain ⟨hpmsg, hblk, -⟩ := hok
    rw [hpmsg] at hblk
    unfold Md5Run.count at hm
    omega
  | succ m ih =>
    have hstep := step_of_md5Run hr
    obtain ⟨h, r', ho, hok', hc⟩ | ⟨hc, ho⟩ := md5StepOp_of_okFrom hr hok
    · rw [core_run_succ (hstep.trans ho)]
      exact ih _ r' rfl hok' (show r'.count + m = 64 * nblk (pad .le s.md5.buf) by omega)
    · obtain rfl : m = 0 := by omega
      exact core_run_succ (hstep.trans ho)

/-! ## SHA-1 -/

/-- `Sha1Run.Ok` with the chain of blocks begun from any digest state. -/
def Sha1Run.OkFrom (iv : Sha1Words) (e : Sha1Engine) (r : Sha1Run) : Prop :=
  r.pmsg = pad .be e.buf ∧ r.blk < nblk r.pmsg ∧ r.w = sha1Schedule (blockAt r.pmsg r.blk) ∧
    e.h = ((blocksOf r.pmsg).take r.blk).foldl sha1Compress iv ∧
    r.work = ((List.finRange 80).take r.step.val).foldl (sha1Step r.w) e.h

theorem Sha1Run.ok_iff_okFrom (e : Sha1Engine) (r : Sha1Run) : r.Ok e ↔ r.OkFrom sha1Iv e := Iff.rfl

/-- The micro-operations done. -/
def Sha1Run.count (r : Sha1Run) : Nat := 80 * r.blk + r.step.val

/-- The working state that a FINALIZE is opened with (`State.openSha1`). -/
theorem Sha1Run.okFrom_open (e : Sha1Engine) : (sha1EnterBlock e.h (pad .be e.buf) 0).OkFrom e.h e :=
  ⟨rfl, nblk_pad_pos .be e.buf, rfl, rfl, rfl⟩

/-- The sequencer takes its own index's step, or starts the next block, or ends FINALIZE after the last step of the last
block. -/
theorem sha1StepOp_of_okFrom {iv : Sha1Words} {s : State} {r : Sha1Run} (hr : s.sha1.run = some r)
    (hok : r.OkFrom iv s.sha1) :
    (∃ h r', sha1StepOp r.step s = .next { s with sha1 := { s.sha1 with h := h, run := some r' } } ∧
        r'.OkFrom iv { s.sha1 with h := h, run := some r' } ∧ r'.count = r.count + 1) ∨
      (r.count + 1 = 80 * nblk (pad .be s.sha1.buf) ∧
        sha1StepOp r.step s = .next (s.answerSha1 (s.sha1.close sha1Algo iv))) := by
  obtain ⟨hpmsg, hblk, hw, hh, hwork⟩ := hok
  have hstep :
      sha1Step r.w r.work r.step = ((List.finRange 80).take (r.step.val + 1)).foldl (sha1Step r.w) s.sha1.h := by
    rw [foldl_take_finRange_succ, ← hwork]
  obtain ⟨hnone, -⟩ | ⟨r₀, hr₀, hlt, ho⟩ | ⟨r₀, hr₀, hlast, ho⟩ := sha1StepOp_cases r.step s
  · simp [hr] at hnone
  · obtain rfl : r = r₀ := by simpa [hr] using hr₀
    exact .inl ⟨s.sha1.h, _, ho, ⟨hpmsg, hblk, hw, hh, hstep⟩, rfl⟩
  · obtain rfl : r = r₀ := by simpa [hr] using hr₀
    have hlen : r.step.val + 1 = 80 := by omega
    have hfeed : sha1Feed s.sha1.h (sha1Step r.w r.work r.step) =
        ((blocksOf r.pmsg).take (r.blk + 1)).foldl sha1Compress iv := by
      rw [foldl_take_blocksOf_succ _ _ hblk, ← hh, hstep, hlen, List.take_of_length_le (by simp), hw]
      rfl
    rw [ho]
    obtain ⟨hnext, hl⟩ | ⟨hend, hl⟩ := State.leaveSha1Block_cases s
      { r with work := sha1Step r.w r.work r.step, temp := sha1Temp r.w r.work r.step } <;> rw [hl]
    · refine .inl ⟨_, _, rfl, ⟨hpmsg, hnext, rfl, hfeed, rfl⟩, ?_⟩
      simp only [Sha1Run.count, sha1EnterBlock, Fin.val_zero]
      omega
    · have hall : r.blk + 1 = nblk (pad .be s.sha1.buf) := by
        rw [← hpmsg]
        exact le_antisymm hblk (not_lt.1 hend)
      refine .inr ⟨by unfold Sha1Run.count; omega, ?_⟩
      simp only [hfeed, Engine.close, Algo.digestFrom, sha1Algo, hall, hpmsg, take_blocksOf_of_le le_rfl]

/-- MD5 moves first (log 5). -/
theorem step_of_sha1Run {s : State} {r : Sha1Run} (hmd5 : s.md5.run = none) (hr : s.sha1.run = some r) :
    step s = sha1StepOp r.step s := by
  simp [step, fetch, hmd5, hr, exec_sha1StepInstr]

/-- The micro-operations that an open FINALIZE still has to do end it. -/
theorem core_run_sha1 (iv : Sha1Words) (m : Nat) (s : State) (r : Sha1Run) (hmd5 : s.md5.run = none)
    (hr : s.sha1.run = some r) (hok : r.OkFrom iv s.sha1) (hm : r.count + m = 80 * nblk (pad .be s.sha1.buf)) :
    core.run m s = .next (s.answerSha1 (s.sha1.close sha1Algo iv)) := by
  induction m generalizing s r with
  | zero =>
    obtain ⟨hpmsg, hblk, -⟩ := hok
    rw [hpmsg] at hblk
    unfold Sha1Run.count at hm
    omega
  | succ m ih =>
    have hstep := step_of_sha1Run hmd5 hr
    obtain ⟨h, r', ho, hok', hc⟩ | ⟨hc, ho⟩ := sha1StepOp_of_okFrom hr hok
    · rw [core_run_succ (hstep.trans ho)]
      exact ih _ r' hmd5 rfl hok' (show r'.count + m = 80 * nblk (pad .be s.sha1.buf) by omega)
    · obtain rfl : m = 0 := by omega
      exact core_run_succ (hstep.trans ho)

/-! ## The invariant inside FINALIZE -/

/-- A micro-operation of MD5 keeps the invariant. -/
theorem State.Inv.md5_step {s t : State} {r : Md5Run} (hinv : s.Inv) (hr : s.md5.run = some r)
    (h : md5StepOp r.step s = .next t) : t.Inv := by
  obtain ⟨hmd5, hsha1⟩ := hinv
  have hok := (Md5Run.ok_iff_okFrom _ r).1 (hmd5.ok_of_run hr)
  obtain ⟨h', r', ho, hok', -⟩ | ⟨-, ho⟩ := md5StepOp_of_okFrom hr hok <;>
    obtain rfl := Host.Outcome.next.inj (ho.symm.trans h)
  · exact ⟨hmd5.setRun hr hok', hsha1⟩
  · exact ⟨hmd5.close md5Algo md5Iv, hsha1⟩

/-- A micro-operation of SHA-1 keeps the invariant. -/
theorem State.Inv.sha1_step {s t : State} {r : Sha1Run} (hinv : s.Inv) (hr : s.sha1.run = some r)
    (h : sha1StepOp r.step s = .next t) : t.Inv := by
  obtain ⟨hmd5, hsha1⟩ := hinv
  have hok := (Sha1Run.ok_iff_okFrom _ r).1 (hsha1.ok_of_run hr)
  obtain ⟨h', r', ho, hok', -⟩ | ⟨-, ho⟩ := sha1StepOp_of_okFrom hr hok <;>
    obtain rfl := Host.Outcome.next.inj (ho.symm.trans h)
  · exact ⟨hmd5, hsha1.setRun hr hok'⟩
  · exact ⟨hmd5, hsha1.close sha1Algo sha1Iv⟩

/-! ## FINALIZE in ACTIVE -/

theorem exec_md5Finalize_active {s : State} (hp : s.md5.phase = .active) (hf : s.md5.fault = false) :
    exec .md5Finalize s = .next (s.answerMd5 (s.md5.close md5Algo s.md5.h)) := by
  rw [← Engine.answer_finalize (cap := s.bufCap.val) (p := []) hf hp]
  exact exec_commandInstr_md5 .finalize [] s

theorem exec_sha1Finalize_active {s : State} (hp : s.sha1.phase = .active) (hf : s.sha1.fault = false) :
    exec .sha1Finalize s = .next (s.answerSha1 (s.sha1.close sha1Algo s.sha1.h)) := by
  rw [← Engine.answer_finalize (cap := s.bufCap.val) (p := []) hf hp]
  exact exec_commandInstr_sha1 .finalize [] s

end Sys2Proof.Machine
end

section
/-! The fields of the status word (10_state.md R30). -/

namespace Sys2Proof.Machine

/-- The codes put together as `E.STATUS` has them are read back from their places. -/
theorem status_fields : ∀ (p : BitVec 2) (f : BitVec 1) (c : BitVec 3),
    let w : Byte := p.setWidth 8 ||| (f.setWidth 8 <<< 2) ||| (c.setWidth 8 <<< 3)
    w.extractLsb' 0 2 = p ∧ w.getLsbD 2 = f.getLsbD 0 ∧ w.extractLsb' 3 3 = c ∧ w.extractLsb' 6 2 = 0 := by
  decide

theorem Engine.status_layout {H R : Type} (e : Engine H R) :
    e.status.extractLsb' 0 2 = phaseCode e.phase ∧ e.status.getLsbD 2 = e.fault ∧
      e.status.extractLsb' 3 3 = causeCode e.cause ∧ e.status.extractLsb' 6 2 = 0 := by
  obtain ⟨hphase, hfault, hcause, hrsv⟩ := status_fields (phaseCode e.phase) (faultCode e.fault) (causeCode e.cause)
  have hbit : (faultCode e.fault).getLsbD 0 = e.fault := by cases e.fault <;> rfl
  exact ⟨hphase, hfault.trans hbit, hcause, hrsv⟩

theorem Engine.status_afterReset {H R : Type} (h : H) : (Engine.afterReset h : Engine H R).status = 0x00#8 := by
  simp [Engine.status, phaseCode, faultCode, causeCode]

end Sys2Proof.Machine
end

section
/-! The obligations of the state's rules. -/

namespace Sys2Proof.Proofs

open Sys2Proof.Machine

/-- Settles O24: an instruction's effect on its engine and its responses is one function of that engine and the
capacity, so it is the frame, and two states that agree there get the same effect. -/
theorem enginesAreIndependent : Obligations.EnginesAreIndependent := by
  intro i s u hcap
  refine ⟨fun t ht => ?_, fun hi he => ?_, fun hi he => ?_⟩
  · cases hi : instrAlg i with
    | md5 =>
      obtain ⟨e', rs, rfl⟩ := exec_md5_frame hi ht
      exact ⟨rfl, rfl, rfl, fun _ => rfl, nofun⟩
    | sha1 =>
      obtain ⟨e', rs, rfl⟩ := exec_sha1_frame hi ht
      exact ⟨rfl, rfl, rfl, nofun, fun _ => rfl⟩
  · obtain hf | ⟨e', rs, hrs, hn⟩ := exec_md5_local hi s.bufCap s.md5
    · exact .inl ⟨hf s rfl rfl, hf u hcap.symm he.symm⟩
    · exact .inr ⟨_, _, rs, hn s rfl rfl, hn u hcap.symm he.symm, rfl, hrs, rfl, rfl⟩
  · obtain hf | ⟨e', rs, hrs, hn⟩ := exec_sha1_local hi s.bufCap s.sha1
    · exact .inl ⟨hf s rfl rfl, hf u hcap.symm he.symm⟩
    · exact .inr ⟨_, _, rs, hn s rfl rfl, hn u hcap.symm he.symm, rfl, hrs, rfl, rfl⟩

/-- Settles O29: a case for each kind of step; inside FINALIZE the working state stays on the chain of blocks. -/
theorem everyStepKeepsTheInvariant : Obligations.EveryStepKeepsTheInvariant := by
  intro s t hinv ht
  obtain ⟨r, hr, hs⟩ | ⟨r, -, hr, hs⟩ | ⟨-, -, hs⟩ | ⟨rest, -, -, hs⟩ | ⟨c, rest, i, hq, -, hi, hs⟩ |
    ⟨c, rest, hq, -, -, hs⟩ := step_cases s <;> rw [hs] at ht
  · exact hinv.md5_step hr ht
  · exact hinv.sha1_step hr ht
  · obtain rfl := Host.Outcome.next.inj ht
    exact hinv
  · obtain rfl := Host.Outcome.next.inj ht
    exact State.inv_applyReset _
  · rw [decodeCmd_cases hi] at ht
    exact State.Inv.exec_command (s := { s with inbox := rest }) hinv hq ht
  · obtain rfl := Host.Outcome.next.inj ht
    exact State.Inv.illegalCommand (s := { s with inbox := rest }) hinv hq c.word

/-- Settles O52: the run from the opened FINALIZE, by induction on the micro-operations still to do. -/
theorem md5FinalizeIsItsMicroOperations : Obligations.Md5FinalizeIsItsMicroOperations := by
  intro s hp hf
  rw [exec_md5Finalize_active hp hf]
  exact core_run_md5 s.md5.h _ s.openMd5 _ rfl (Md5Run.okFrom_open s.md5) (Nat.zero_add _)

/-- Settles O53: the run from the opened FINALIZE, by induction on the micro-operations still to do. -/
theorem sha1FinalizeIsItsMicroOperations : Obligations.Sha1FinalizeIsItsMicroOperations := by
  intro s hmd5 hp hf
  rw [exec_sha1Finalize_active hp hf]
  exact core_run_sha1 s.sha1.h _ s.openSha1 _ hmd5 rfl (Sha1Run.okFrom_open s.sha1) (Nat.zero_add _)

/-- Settles O19: an instruction, as a command or inside FINALIZE, keeps a recorded fault, and so does an illegal
word. -/
theorem faultIsStickyUntilReset : Obligations.FaultIsStickyUntilReset := by
  intro s t ht
  obtain ⟨r, -, hs⟩ | ⟨r, -, -, hs⟩ | ⟨-, -, hs⟩ | ⟨rest, hq, hin, -⟩ | ⟨c, rest, i, -, -, -, hs⟩ |
    ⟨c, rest, -, -, -, hs⟩ := step_cases s
  · exact .inr (exec_keepsFault (by rw [exec_md5StepInstr, ← hs, ht]))
  · exact .inr (exec_keepsFault (by rw [exec_sha1StepInstr, ← hs, ht]))
  · obtain rfl := Host.Outcome.next.inj (hs.symm.trans ht)
    exact .inr ⟨Engine.KeepsFault.refl _, Engine.KeepsFault.refl _⟩
  · exact .inl ⟨by rw [hin, List.head?_cons], hq⟩
  · exact .inr (exec_keepsFault (s := { s with inbox := rest }) (hs.symm.trans ht))
  · obtain rfl := Host.Outcome.next.inj (hs.symm.trans ht)
    exact .inr (State.illegalCommand_keepsFault { s with inbox := rest } c.word)

/-- Settles O23: the three writers of each digest state; in DONE with no FINALIZE open two of them cannot write. -/
theorem whoWritesTheDigestState : Obligations.WhoWritesTheDigestState := by
  intro i s t ht
  refine ⟨fun hne => ?_, fun hne => ?_, fun hp hr hne => ?_, fun hp hr hne => ?_⟩
  · exact (md5_h_writer ht hne).imp_right (Or.imp And.left And.left)
  · exact (sha1_h_writer ht hne).imp_right (Or.imp And.left And.left)
  · obtain hi | ⟨-, hactive⟩ | ⟨-, hopen⟩ := md5_h_writer ht hne
    · exact hi
    · simp [hp] at hactive
    · exact absurd hr hopen
  · obtain hi | ⟨-, hactive⟩ | ⟨-, hopen⟩ := sha1_h_writer ht hne
    · exact hi
    · simp [hp] at hactive
    · exact absurd hr hopen

/-- Settles O51: a step index decodes to its micro-operation, which finds no working registers. -/
theorem stepsOutsideFinalizeStop : Obligations.StepsOutsideFinalizeStop := by
  intro s
  refine ⟨fun i op hop hr => ?_, fun t op hop hr => ?_⟩
  · rw [decode, Except.ok.injEq] at hop
    rw [← hop, exec_md5StepInstr, md5StepOp_of_run_none hr]
  · by_cases hlt : t.toNat < 80
    · rw [decode, dif_pos hlt, Except.ok.injEq] at hop
      rw [← hop, exec_sha1StepInstr, sha1StepOp_of_run_none hr]
    · rw [decode, dif_neg hlt] at hop
      nomatch hop

/-- Settles O9: both engines are `Engine.afterReset`, whose codes put together are status 0x00. -/
theorem resetLeavesBothEnginesIdle : Obligations.ResetLeavesBothEnginesIdle := by
  intro cap
  exact ⟨rfl, rfl, rfl, rfl, rfl, rfl, Engine.status_afterReset _, rfl, rfl, rfl, rfl, rfl,
    Engine.status_afterReset _⟩

/-- Settles O20: the fields of the status word, and the codes of each phase and cause. -/
theorem statusWordLayout : Obligations.StatusWordLayout := by
  refine ⟨fun e => ?_, fun e => ?_⟩ <;> obtain ⟨hphase, hfault, hcause, hrsv⟩ := e.status_layout
  · exact ⟨hphase.trans (by cases e.phase <;> rfl), hfault, hcause.trans (by cases e.cause <;> rfl), hrsv⟩
  · exact ⟨hphase.trans (by cases e.phase <;> rfl), hfault, hcause.trans (by cases e.cause <;> rfl), hrsv⟩

/-- Settles O28: reset gives each engine the state after reset, which meets the invariant whatever `H` holds. -/
theorem invariantHoldsAtReset : Obligations.InvariantHoldsAtReset :=
  fun _ => ⟨Engine.inv_afterReset _, Engine.inv_afterReset _⟩

end Sys2Proof.Proofs
end

section
/-! The buffer and the blocks (20_memory.md): who stores to a buffer (R66), the words of a block (R52, R53), the length
words (R54), and what a step takes (R61). -/

namespace Sys2Proof.Machine

/-! ## The buffer (R66, 10_state.md R26) -/

section
variable {H R : Type} {A : Algo H} {cap : Nat} {p : List Byte} {op : Op} {last : Prop} {e e' : Engine H R}
  {a : Answer (Engine H R)} {rs : List Resp}

/-- What the answer to a command makes of the buffer. -/
theorem Engine.Answered.buf_cases (h : Engine.Answered A cap p e op a) :
    a.engine.buf = e.buf ∨ (a.engine.buf = [] ∧ (op = .create ∨ op = .finalize)) ∨
      (op = .append ∧ a.engine.buf = e.buf ++ p) := by
  cases h with
  | refused | raised | rendered => exact .inl rfl
  | created => exact .inr (.inl ⟨rfl, .inl rfl⟩)
  | finalized => exact .inr (.inl ⟨rfl, .inr rfl⟩)
  | appended => exact .inr (.inr ⟨rfl, rfl⟩)

/-- What a micro-operation makes of the buffer. -/
theorem Engine.Micro.buf_cases (h : Engine.Micro last e e' rs) : e'.buf = e.buf ∨ (e'.buf = [] ∧ last) := by
  cases h with
  | advanced | nextBlock => exact .inl rfl
  | finished _ _ hl => exact .inr ⟨rfl, hl⟩

/-- APPEND in ACTIVE of a payload that fits. -/
theorem Engine.answer_append_fits (hf : e.fault = false) (hp : e.phase = .active)
    (hfit : e.buf.length + p.length ≤ cap) :
    e.answer A cap p .append = ⟨{ e with buf := bufAppend e.buf p }, true, []⟩ := by
  rw [Engine.answer, Engine.command_runs hf (by rw [hp]; rfl)]
  obtain ⟨hover, -⟩ | ⟨-, hb⟩ := Engine.appendBody_cases cap p e
  · omega
  · exact hb

/-- APPEND of a payload that does not fit, in any phase and with any fault recorded. -/
theorem Engine.Answered.append_overflow (h : Engine.Answered A cap p e .append a)
    (hover : cap < e.buf.length + p.length) : a.engine.buf = e.buf ∧ a.engine.fault = true := by
  cases h with
  | refused _ hf => exact ⟨rfl, hf⟩
  | raised => exact ⟨rfl, rfl⟩
  | appended _ _ hfit => omega

end

theorem length_bufAppend (buf p : List Byte) : (bufAppend buf p).length = buf.length + p.length :=
  List.length_append

/-- The writers of the MD5 buffer. -/
theorem md5_buf_cases {i : Instr} {s t : State} (h : exec i s = .next t) :
    t.md5.buf = s.md5.buf ∨ (t.md5.buf = [] ∧ (i = .md5Create ∨ i = .md5Finalize ∨ i = .md5Step63)) ∨
      ∃ q, i = .md5Append q ∧ t.md5.buf = s.md5.buf ++ q := by
  obtain he | ⟨op, p, a, rfl, ha, he⟩ | ⟨j, r, rs, rfl, -, hm⟩ := exec_md5_engine h
  · exact .inl (by rw [he])
  · rw [he]
    obtain hb | ⟨hb, rfl | rfl⟩ | ⟨rfl, hb⟩ := ha.buf_cases
    · exact .inl hb
    · exact .inr (.inl ⟨hb, .inl rfl⟩)
    · exact .inr (.inl ⟨hb, .inr (.inl rfl)⟩)
    · exact .inr (.inr ⟨p, rfl, hb⟩)
  · obtain hb | ⟨hb, rfl⟩ := hm.buf_cases
    · exact .inl hb
    · exact .inr (.inl ⟨hb, .inr (.inr rfl)⟩)

/-- The writers of the SHA-1 buffer. -/
theorem sha1_buf_cases {i : Instr} {s t : State} (h : exec i s = .next t) :
    t.sha1.buf = s.sha1.buf ∨ (t.sha1.buf = [] ∧ (i = .sha1Create ∨ i = .sha1Finalize ∨ i = .sha1Step79)) ∨
      ∃ q, i = .sha1Append q ∧ t.sha1.buf = s.sha1.buf ++ q := by
  obtain he | ⟨op, p, a, rfl, ha, he⟩ | ⟨j, r, rs, rfl, -, hm⟩ := exec_sha1_engine h
  · exact .inl (by rw [he])
  · rw [he]
    obtain hb | ⟨hb, rfl | rfl⟩ | ⟨rfl, hb⟩ := ha.buf_cases
    · exact .inl hb
    · exact .inr (.inl ⟨hb, .inl rfl⟩)
    · exact .inr (.inl ⟨hb, .inr (.inl rfl)⟩)
    · exact .inr (.inr ⟨p, rfl, hb⟩)
  · obtain hb | ⟨hb, rfl⟩ := hm.buf_cases
    · exact .inl hb
    · exact .inr (.inl ⟨hb, .inr (.inr rfl)⟩)

/-! ## What is taken next (R61, 10_state.md R33) -/

/-- The four commands of an engine are its operations. -/
theorem commandInstr_of_mem {alg : Alg} {i : Instr} {p : List Byte}
    (h : i ∈ ([.create, .append, .finalize, .render] : List Op).map fun op => commandInstr alg op p) :
    ∃ op, i = commandInstr alg op p := by
  obtain ⟨op, -, rfl⟩ := List.mem_map.1 h
  exact ⟨op, rfl⟩

theorem execAll_pair {i j : Instr} {s t u : State} (hi : exec i s = .next t) (hj : exec j t = .next u) :
    execAll [i, j] s = some u := by
  simp [execAll, hi, hj, nextOf]

/-- The step that takes a legal command of the host. -/
theorem step_command {s : State} {c : Cmd} {rest : List HostEvent} {i : Instr} (hq : s.Quiescent)
    (hin : s.inbox = .command c :: rest) (hi : decodeCmd c = .ok i) : step s = exec i { s with inbox := rest } := by
  obtain ⟨hmd5, hsha1⟩ := hq
  simp [step, fetch, fetchEvent, hmd5, hsha1, hin, hi]

/-- The code word of an MD5 step index decodes to its micro-operation. -/
theorem decode_md5Step_ofNat (j : Fin 64) : decode (.md5Step (BitVec.ofNat 6 j.val)) = .ok (md5StepInstr j) := by
  have hj : (BitVec.ofNat 6 j.val).toFin = j := Fin.ext (Nat.mod_eq_of_lt j.isLt)
  rw [decode, hj]

/-- The code word of a SHA-1 step index decodes to its micro-operation. -/
theorem decode_sha1Step_ofNat (t : Fin 80) :
    decode (.sha1Step (BitVec.ofNat 7 t.val)) = .ok (sha1StepInstr t) := by
  have ht : (BitVec.ofNat 7 t.val).toNat = t.val := Nat.mod_eq_of_lt (by omega)
  simp [decode, ht]

/-! ## The words of a block (R52, R53, 43_sha1_compress.md R201) -/

theorem toNat_be32 (b0 b1 b2 b3 : Byte) :
    (be32 b0 b1 b2 b3).toNat =
      2 ^ 24 * b0.toNat + 2 ^ 16 * b1.toNat + 2 ^ 8 * b2.toNat + b3.toNat := by
  rw [be32_eq_le32, toNat_le32]
  omega

theorem blockByte_blockAt (pmsg : List Byte) (blk : Nat) {i : Nat} (hi : i < 64) :
    blockByte (blockAt pmsg blk) i = pmsg.getD (64 * blk + i) 0 := by
  simp [blockByte, blockAt, memRead, List.getD_eq_getElem?_getD, hi]

/-- Byte `j` of word `k` of a block, in the byte sequence it is cut from. -/
theorem blockByte_blockAt_word (pmsg : List Byte) (blk : Nat) {k : Nat} (hk : k < 16) {j : Nat} (hj : j < 4) :
    blockByte (blockAt pmsg blk) (4 * k + j) = pmsg.getD (64 * blk + 4 * k + j) 0 := by
  rw [blockByte_blockAt _ _ (by omega), Nat.add_assoc]

theorem md5Load_get (block : List Byte) (k : Fin 16) :
    (md5Load block).get k = le32 (blockByte block (4 * k)) (blockByte block (4 * k + 1))
      (blockByte block (4 * k + 2)) (blockByte block (4 * k + 3)) := by
  simp [md5Load, Vector.get_eq_getElem]

/-- The next word of a schedule whose words before index `i` are those of `w` (43_sha1_compress.md R201). -/
def sha1NextWord (w : List Word) (i : Nat) : Word :=
  rotl (w.getD (i - 3) 0 ^^^ w.getD (i - 8) 0 ^^^ w.getD (i - 14) 0 ^^^ w.getD (i - 16) 0) 1

theorem sha1ExpandOne_eq (w : List Word) : sha1ExpandOne w = w ++ [sha1NextWord w w.length] := rfl

/-- The expansion keeps the words it starts from. -/
theorem sha1Expand_getD_of_lt (n : Nat) {w : List Word} {i : Nat} (hi : i < w.length) :
    (sha1Expand n w).getD i 0 = w.getD i 0 := by
  induction n generalizing w with
  | zero => rfl
  | succ n ih =>
    have hone : i < (sha1ExpandOne w).length := by
      rw [sha1ExpandOne_eq, List.length_append]
      omega
    rw [sha1Expand, ih hone, sha1ExpandOne_eq, List.getD_append _ _ _ _ hi]

/-- The next word reads earlier words only, which the expansion keeps. -/
theorem sha1NextWord_sha1Expand (n : Nat) {w : List Word} (hpos : 0 < w.length) :
    sha1NextWord (sha1Expand n w) w.length = sha1NextWord w w.length := by
  have hread {d : Nat} (hd : 0 < d) : (sha1Expand n w).getD (w.length - d) 0 = w.getD (w.length - d) 0 :=
    sha1Expand_getD_of_lt n (by omega)
  simp only [sha1NextWord, hread (d := 3), hread (d := 8), hread (d := 14), hread (d := 16), Nat.ofNat_pos]

/-- Every word of the expansion is the next word of those before it. -/
theorem sha1Expand_getD_of_le (n : Nat) {w : List Word} {i : Nat} (hpos : 0 < w.length) (hi : w.length ≤ i)
    (hin : i < w.length + n) : (sha1Expand n w).getD i 0 = sha1NextWord (sha1Expand n w) i := by
  induction n generalizing w with
  | zero => omega
  | succ n ih =>
    have hlen : (sha1ExpandOne w).length = w.length + 1 := List.length_append
    obtain rfl | hlt := hi.eq_or_lt
    · rw [sha1NextWord_sha1Expand (n + 1) hpos, sha1Expand, sha1Expand_getD_of_lt n (by omega), sha1ExpandOne_eq]
      simp
    · exact ih (by omega) (by omega) (by omega)

@[simp] theorem length_sha1Load (block : List Byte) : (sha1Load block).length = 16 := by simp [sha1Load]

theorem sha1Schedule_get_eq_getD (block : List Byte) (i : Fin 80) :
    (sha1Schedule block).get i = (sha1Expand 64 (sha1Load block)).getD i 0 := by
  have hi : i.val < (sha1Expand 64 (sha1Load block)).length := by
    simp [sha1Expand_length]
  simp [sha1Schedule, Vector.get_eq_getElem, List.getD_eq_getElem?_getD, hi]

/-- The first sixteen words of the schedule are the block's (R53). -/
theorem sha1Schedule_get_of_lt (block : List Byte) {i : Fin 80} (hi : i.val < 16) :
    (sha1Schedule block).get i = be32 (blockByte block (4 * i)) (blockByte block (4 * i + 1))
      (blockByte block (4 * i + 2)) (blockByte block (4 * i + 3)) := by
  rw [sha1Schedule_get_eq_getD, sha1Expand_getD_of_lt 64 (by simpa using hi)]
  simp [sha1Load, List.getD_eq_getElem?_getD, hi]

/-- The other words of the schedule come from earlier ones (43_sha1_compress.md R201). -/
theorem sha1Schedule_get_of_le (block : List Byte) {i : Fin 80} (hi : 16 ≤ i.val) :
    (sha1Schedule block).get i =
      rotl ((sha1Schedule block).get ⟨i.val - 3, by omega⟩ ^^^ (sha1Schedule block).get ⟨i.val - 8, by omega⟩ ^^^
        (sha1Schedule block).get ⟨i.val - 14, by omega⟩ ^^^ (sha1Schedule block).get ⟨i.val - 16, by omega⟩) 1 := by
  have hlen := length_sha1Load block
  simp only [sha1Schedule_get_eq_getD]
  exact sha1Expand_getD_of_le 64 (by omega) (by omega) (by omega)

/-! ## The length words of the last block (R54) -/

theorem toNat_dwordByte (v : BitVec 64) (m : Nat) : (dwordByte v m).toNat = v.toNat / 2 ^ (8 * m) % 2 ^ 8 := by
  rw [dwordByte, BitVec.extractLsb'_toNat, Nat.shiftRight_eq_div_pow]

/-- Four bytes from the low end. -/
theorem toNat_le32_dwordByte_low (v : BitVec 64) :
    (le32 (dwordByte v 0) (dwordByte v 1) (dwordByte v 2) (dwordByte v 3)).toNat = v.toNat % 2 ^ 32 := by
  simp only [toNat_le32, toNat_dwordByte]
  omega

/-- Four bytes from the high end. -/
theorem toNat_le32_dwordByte_high (v : BitVec 64) :
    (le32 (dwordByte v 4) (dwordByte v 5) (dwordByte v 6) (dwordByte v 7)).toNat = v.toNat / 2 ^ 32 := by
  have hv := v.isLt
  simp only [toNat_le32, toNat_dwordByte]
  omega

theorem getD_le64Bytes (v : BitVec 64) {m : Nat} (hm : m < 8) : (le64Bytes v).getD m 0 = dwordByte v m := by
  rw [List.getD_eq_getElem?_getD, getElem?_le64Bytes v hm]
  rfl

theorem getD_be64Bytes (v : BitVec 64) {m : Nat} (hm : m < 8) :
    (be64Bytes v).getD (7 - m) 0 = dwordByte v m := by
  have hrange : 7 - m < 8 := by omega
  simp [be64Bytes, List.getD_eq_getElem?_getD, List.getElem?_range hrange, Nat.sub_sub_self (Nat.le_of_lt_succ hm)]

/-- The last eight bytes of the last block are the length field. -/
theorem blockByte_lastBlock (o : ByteOrder) (msg : List Byte) {m : Nat} (hm : m < 8) :
    blockByte (blockAt (pad o msg) (nblk (pad o msg) - 1)) (56 + m) = (lengthField o msg.length).getD m 0 := by
  have hlen := pad_length o msg
  have hpos : 64 * (nblk (pad o msg) - 1) + (56 + m) = (msg.length + 1 + zeroCount msg.length) + m := by
    unfold zeroCount at hlen ⊢
    unfold nblk
    omega
  have hbefore : (msg ++ 0x80#8 :: List.replicate (zeroCount msg.length) 0x00#8).length =
      msg.length + 1 + zeroCount msg.length := by
    simp
    omega
  rw [blockByte_blockAt _ _ (by omega), hpos, pad, ← List.cons_append, ← List.append_assoc,
    List.getD_append_right _ _ _ _ (by omega), hbefore, Nat.add_sub_cancel_left]

/-- The length words of the last MD5 block: low word first. -/
theorem md5Load_lastBlock (msg : List Byte) :
    let x := md5Load (blockAt (pad .le msg) (nblk (pad .le msg) - 1))
    (x.get 14).toNat = (bitLength msg.length).toNat % 2 ^ 32 ∧
      (x.get 15).toNat = (bitLength msg.length).toNat / 2 ^ 32 := by
  have hbyte {m : Nat} (hm : m < 8) : dwordByte (bitLength msg.length) m =
      blockByte (blockAt (pad .le msg) (nblk (pad .le msg) - 1)) (56 + m) := by
    rw [blockByte_lastBlock .le msg hm, lengthField, getD_le64Bytes _ hm]
  rw [← toNat_le32_dwordByte_low, ← toNat_le32_dwordByte_high]
  simp only [md5Load_get, hbyte, Nat.reduceLT]
  exact ⟨rfl, rfl⟩

/-- The length words of the last SHA-1 block: high word first. -/
theorem sha1Schedule_lastBlock (msg : List Byte) :
    let w := sha1Schedule (blockAt (pad .be msg) (nblk (pad .be msg) - 1))
    (w.get 14).toNat = (bitLength msg.length).toNat / 2 ^ 32 ∧
      (w.get 15).toNat = (bitLength msg.length).toNat % 2 ^ 32 := by
  have hbyte {m : Nat} (hm : m < 8) : dwordByte (bitLength msg.length) m =
      blockByte (blockAt (pad .be msg) (nblk (pad .be msg) - 1)) (56 + (7 - m)) := by
    rw [blockByte_lastBlock .be msg (by omega), lengthField, getD_be64Bytes _ hm]
  intro w
  rw [← toNat_le32_dwordByte_low, ← toNat_le32_dwordByte_high, sha1Schedule_get_of_lt _ (by decide),
    sha1Schedule_get_of_lt _ (by decide)]
  simp only [hbyte, Nat.reduceLT]
  exact ⟨rfl, rfl⟩

end Sys2Proof.Machine
end

section
/-! The obligations of the memory rules. -/

namespace Sys2Proof.Proofs

open Sys2Proof.Machine

/-- Settles O22: the payload goes to the end of the buffer when it fits, and the writers of each buffer are those of
`md5_buf_cases` and `sha1_buf_cases`. -/
theorem appendIsTheOnlyStore : Obligations.AppendIsTheOnlyStore := by
  intro s p
  refine ⟨fun hf hp hfit => ?_, fun hf hp hfit => ?_, fun hover => ?_, fun hover => ?_,
    fun i t ht => ⟨md5_buf_cases ht, sha1_buf_cases ht⟩⟩
  · refine ⟨_, exec_commandInstr_md5 .append p s, ?_⟩
    rw [Engine.answer_append_fits hf hp hfit]
    exact ⟨length_bufAppend .., fun _ => bufRead_bufAppend_old, bufRead_bufAppend_new _ p⟩
  · refine ⟨_, exec_commandInstr_sha1 .append p s, ?_⟩
    rw [Engine.answer_append_fits hf hp hfit]
    exact ⟨length_bufAppend .., fun _ => bufRead_bufAppend_old, bufRead_bufAppend_new _ p⟩
  · exact ⟨_, exec_commandInstr_md5 .append p s, (s.md5.answered ..).append_overflow hover⟩
  · exact ⟨_, exec_commandInstr_sha1 .append p s, (s.sha1.answered ..).append_overflow hover⟩

/-- Settles O25: a command answers from its own engine and the capacity, which a command of the other engine leaves as
they are. -/
theorem commandsToDifferentEnginesCommute : Obligations.CommandsToDifferentEnginesCommute := by
  intro s p q i hi j hj
  obtain ⟨op, rfl⟩ := commandInstr_of_mem (alg := .md5) hi
  obtain ⟨op', rfl⟩ := commandInstr_of_mem (alg := .sha1) hj
  exact ⟨_, _, (s.md5.answer md5Algo s.bufCap.val p op).resp, (s.sha1.answer sha1Algo s.bufCap.val q op').resp,
    execAll_pair (exec_commandInstr_md5 op p s) (exec_commandInstr_sha1 op' q _),
    execAll_pair (exec_commandInstr_sha1 op' q s) (exec_commandInstr_md5 op p _),
    rfl, rfl, rfl, by simp, by simp⟩

/-- Settles O38: word `k` is the `le32` of the bytes of the block from `4 * k` on. -/
theorem md5BlockLoad : Obligations.Md5BlockLoad := by
  intro h pmsg blk k _
  have hbyte {j : Nat} := blockByte_blockAt_word pmsg blk k.isLt (j := j)
  simp only [md5EnterBlock, md5Load_get, toNat_le32, ← hbyte, Nat.reduceLT]
  rfl

/-- Settles O39: the schedule starts with the block's words, and each later word is the next word of those before it. -/
theorem sha1BlockLoadAndExpansion : Obligations.Sha1BlockLoadAndExpansion := by
  intro h pmsg blk _
  refine ⟨fun k => ?_, fun i hi => sha1Schedule_get_of_le _ hi⟩
  have hbyte {j : Nat} := blockByte_blockAt_word pmsg blk k.isLt (j := j)
  simp only [sha1EnterBlock, sha1Schedule_get_of_lt, k.isLt, toNat_be32, ← hbyte, Nat.reduceLT]
  rfl

/-- Settles O40: the last eight bytes of the last block are the length field, in each engine's byte order. -/
theorem lengthWordsOfTheLastBlock : Obligations.LengthWordsOfTheLastBlock := by
  intro msg hmsg
  obtain ⟨hx14, hx15⟩ := md5Load_lastBlock msg
  obtain ⟨hw14, hw15⟩ := sha1Schedule_lastBlock msg
  rw [bitLength_toNat hmsg] at hx14 hx15 hw14 hw15
  exact ⟨hx14, hx15, hw14, hw15⟩

/-- Settles O5: a command by its decoding, a micro-operation by the step counter's. -/
theorem stepRunsTheDecodedInstruction : Obligations.StepRunsTheDecodedInstruction := by
  refine ⟨fun s c rest i hq hin hi => step_command hq hin hi, fun s r i hr hi => ?_, fun s r i hmd5 hr hi => ?_⟩
  · obtain rfl := Except.ok.inj ((decode_md5Step_ofNat r.step).symm.trans hi)
    rw [step_of_md5Run hr, exec_md5StepInstr]
  · obtain rfl := Except.ok.inj ((decode_sha1Step_ofNat r.step).symm.trans hi)
    rw [step_of_sha1Run hmd5 hr, exec_sha1StepInstr]

end Sys2Proof.Proofs
end

section
/-! The codes (30_encoding.md): a command word put together from its fields and taken apart again (R81 to R84), the step
indices (R87, R88), and the response to a command (R86). -/

namespace Sys2Proof.Machine

/-! ## Command words (R81 to R84) -/

/-- Bit 2 of a command word (R81). -/
def algCode : Alg → BitVec 1
  | .md5 => 0#1
  | .sha1 => 1#1

/-- Bits 1 to 0 of a command word (R82). -/
def opCode : Op → BitVec 2
  | .create => 0#2
  | .append => 1#2
  | .finalize => 2#2
  | .render => 3#2

/-- The legal word of an engine and an operation, its reserved bits zero (R83). -/
def commandWord (alg : Alg) (op : Op) : Byte := 0#5 ++ algCode alg ++ opCode op

/-- The payload that the command of an operation carries (R80, R85). -/
def carried (op : Op) (p : List Byte) : List Byte := if op = .append then p else []

/-- The engine is read back from its bit. -/
@[simp] theorem algOfWord_commandWord (alg : Alg) (op : Op) : algOfWord (commandWord alg op) = alg := by
  cases alg <;> cases op <;> rfl

/-- The operation is read back from its bits. -/
@[simp] theorem opOfWord_commandWord (alg : Alg) (op : Op) : opOfWord (commandWord alg op) = op := by
  cases alg <;> cases op <;> rfl

theorem toNat_commandWord_lt (alg : Alg) (op : Op) : (commandWord alg op).toNat < 8 := by
  cases alg <;> cases op <;> decide

/-- A legal word is put together from the fields read from it. -/
theorem commandWord_algOfWord_opOfWord :
    ∀ w : Byte, w.toNat < 8 → commandWord (algOfWord w) (opOfWord w) = w := by
  decide

theorem opOfWord_eq_append_iff : ∀ w : Byte, opOfWord w = .append ↔ w.toNat % 4 = 1 := by decide

/-- A command ignores the payload it does not carry. -/
@[simp] theorem commandInstr_carried (alg : Alg) (op : Op) (p : List Byte) :
    commandInstr alg op (carried op p) = commandInstr alg op p := by
  cases alg <;> cases op <;> rfl

theorem encode_commandInstr (alg : Alg) (op : Op) (p : List Byte) :
    encode (commandInstr alg op p) = .cmd ⟨commandWord alg op, carried op p⟩ := by
  cases alg <;> cases op <;> rfl

/-- A legal command decodes by its fields. -/
theorem decodeCmd_of_lt {w : Byte} (p : List Byte) (h : w.toNat < 8) :
    decodeCmd ⟨w, p⟩ = .ok (commandInstr (algOfWord w) (opOfWord w) p) :=
  if_pos ((rsv_eq_zero_iff w).2 h)

/-- The word of an engine and an operation decodes to their command. -/
theorem decode_commandWord (alg : Alg) (op : Op) (p : List Byte) :
    decode (.cmd ⟨commandWord alg op, p⟩) = .ok (commandInstr alg op p) := by
  rw [decode, decodeCmd_of_lt p (toNat_commandWord_lt alg op), algOfWord_commandWord, opOfWord_commandWord]

/-! ## Step indices (R87, R88) -/

theorem encode_md5StepInstr (j : Fin 64) : encode (md5StepInstr j) = .md5Step (BitVec.ofNat 6 j.val) := by
  fin_cases j <;> rfl

theorem encode_sha1StepInstr (t : Fin 80) : encode (sha1StepInstr t) = .sha1Step (BitVec.ofNat 7 t.val) := by
  fin_cases t <;> rfl

theorem decode_sha1Step_of_lt {t : BitVec 7} (h : t.toNat < 80) :
    decode (.sha1Step t) = .ok (sha1StepInstr ⟨t.toNat, h⟩) :=
  dif_pos h

theorem decode_sha1Step_of_le {t : BitVec 7} (h : 80 ≤ t.toNat) :
    decode (.sha1Step t) = .error (.reservedStep t) :=
  dif_neg (not_lt.2 h)

/-! ## Round trips -/

theorem decode_encode (i : Instr) : decode (encode i) = .ok i := by
  obtain ⟨alg, op, p, rfl⟩ | ⟨j, rfl⟩ | ⟨t, rfl⟩ := instr_cases i
  · rw [encode_commandInstr, decode_commandWord, commandInstr_carried]
  · rw [encode_md5StepInstr, decode_md5Step_ofNat]
  · rw [encode_sha1StepInstr, decode_sha1Step_ofNat]

/-- The legal code words are those that decode. -/
theorem wf_iff_exists_decode (c : Code) : c.wf = true ↔ ∃ i, decode c = .ok i := by
  cases c with
  | cmd m =>
    simp only [Code.wf, Cmd.wf, decide_eq_true_eq]
    refine ⟨fun h => ⟨_, decodeCmd_of_lt m.payload h⟩, fun ⟨i, hi⟩ => ?_⟩
    by_contra hw
    simp [decode, decodeCmd_illegal m.payload (not_lt.1 hw)] at hi
  | md5Step j => exact ⟨fun _ => ⟨_, rfl⟩, fun _ => rfl⟩
  | sha1Step t =>
    simp only [Code.wf, decide_eq_true_eq]
    refine ⟨fun h => ⟨_, decode_sha1Step_of_lt h⟩, fun ⟨i, hi⟩ => ?_⟩
    by_contra ht
    simp [decode_sha1Step_of_le (not_lt.1 ht)] at hi

/-- Encoding what decodes from a command gives its word back, with the payload that its operation carries. -/
theorem encode_of_decode_cmd {m : Cmd} {i : Instr} (h : decode (.cmd m) = .ok i) :
    encode i = .cmd ⟨m.word, carried (opOfWord m.word) m.payload⟩ := by
  have hw : m.word.toNat < 8 := of_decide_eq_true ((wf_iff_exists_decode _).2 ⟨i, h⟩)
  rw [decodeCmd_cases h, encode_commandInstr, commandWord_algOfWord_opOfWord _ hw]

theorem encode_of_decode_md5Step {j : BitVec 6} {i : Instr} (h : decode (.md5Step j) = .ok i) :
    encode i = .md5Step j := by
  obtain rfl := Except.ok.inj h
  rw [encode_md5StepInstr, BitVec.val_toFin, BitVec.ofNat_toNat, BitVec.setWidth_eq]

theorem encode_of_decode_sha1Step {t : BitVec 7} {i : Instr} (h : decode (.sha1Step t) = .ok i) :
    encode i = .sha1Step t := by
  have ht : t.toNat < 80 := of_decide_eq_true ((wf_iff_exists_decode _).2 ⟨i, h⟩)
  obtain rfl := Except.ok.inj ((decode_sha1Step_of_lt ht).symm.trans h)
  rw [encode_sha1StepInstr, BitVec.ofNat_toNat, BitVec.setWidth_eq]

/-! ## Responses (R86) -/

section
variable {H R : Type} {A : Algo H} {cap : Nat} {p : List Byte} {op : Op} {e : Engine H R} {a : Answer (Engine H R)}

/-- The data of an executed command that leaves the digest state `h`. -/
def Algo.data (A : Algo H) (h : H) : Op → List Byte
  | .finalize => A.digest h
  | .render => A.hex h
  | .create | .append => []

/-- A response of R86: `ok` is clear exactly when a fault is recorded after the command, and a refusal has no data. -/
def Answer.Faithful (a : Answer (Engine H R)) : Prop :=
  (a.ok = false ↔ a.engine.fault = true) ∧ (a.ok = false → a.data = [])

theorem Engine.refuse_faithful (hf : e.fault = true) : e.refuse.Faithful :=
  ⟨⟨fun _ => hf, fun _ => rfl⟩, fun _ => rfl⟩

theorem Engine.raiseFault_faithful (e : Engine H R) (c : Cause) : (e.raiseFault c).Faithful :=
  ⟨⟨fun _ => rfl, fun _ => rfl⟩, fun _ => rfl⟩

theorem Answer.faithful_of_ok (hok : a.ok = true) (hf : a.engine.fault = false) : a.Faithful := by
  simp [Answer.Faithful, hok, hf]

theorem Engine.Answered.faithful (h : Engine.Answered A cap p e op a) : a.Faithful := by
  cases h with
  | refused _ hf => exact Engine.refuse_faithful hf
  | raised _ c => exact e.raiseFault_faithful c
  | created hf | appended hf | finalized hf | rendered hf => exact Answer.faithful_of_ok rfl hf

/-- What an executed command answers with. -/
theorem Engine.Answered.data_of_ok (h : Engine.Answered A cap p e op a) (hok : a.ok = true) :
    a.data = A.data a.engine.h op := by
  cases h with
  | refused | raised => nomatch hok
  | created | appended | finalized | rendered => rfl

/-- After an illegal word a fault is recorded, and its response is a refusal with no data. -/
theorem Engine.illegal_answer (e : Engine H R) :
    e.illegal.engine.fault = true ∧ e.illegal.ok = false ∧ e.illegal.data = [] := by
  obtain ⟨hf, ha⟩ | ⟨-, ha⟩ := e.illegal_cases <;> rw [ha]
  · exact ⟨hf, rfl, rfl⟩
  · exact ⟨rfl, rfl, rfl⟩

theorem Engine.status_fault (e : Engine H R) : e.status.getLsbD 2 = e.fault := by
  obtain ⟨-, hfault, -⟩ := e.status_layout
  exact hfault

/-- The `ok` bit against the status word of the same response. -/
theorem Answer.Faithful.ok_iff_status (h : a.Faithful) : a.resp.ok = false ↔ a.resp.status.getLsbD 2 = true := by
  obtain ⟨hok, -⟩ := h
  rw [Answer.resp_status, Engine.status_fault]
  exact hok

theorem Answer.Faithful.data_of_refused (h : a.Faithful) (hok : a.resp.ok = false) : a.resp.data = [] := by
  obtain ⟨-, hdata⟩ := h
  exact hdata hok

end

theorem md5Algo_data (h : Md5Words) (op : Op) (p : List Byte) :
    md5Algo.data h op = if commandInstr .md5 op p = .md5Finalize then md5DigestBytes h
      else if commandInstr .md5 op p = .md5Render then md5Hex h else [] := by
  cases op <;> rfl

theorem sha1Algo_data (h : Sha1Words) (op : Op) (p : List Byte) :
    sha1Algo.data h op = if commandInstr .sha1 op p = .sha1Finalize then sha1DigestBytes h
      else if commandInstr .sha1 op p = .sha1Render then sha1Hex h else [] := by
  cases op <;> rfl

theorem State.illegalCommand_md5 {w : Byte} (s : State) (h : w.getLsbD 2 = false) :
    s.illegalCommand w = s.answerMd5 s.md5.illegal := by
  rw [State.illegalCommand, algOfWord_md5 h]

theorem State.illegalCommand_sha1 {w : Byte} (s : State) (h : w.getLsbD 2 = true) :
    s.illegalCommand w = s.answerSha1 s.sha1.illegal := by
  rw [State.illegalCommand, algOfWord_sha1 h]

end Sys2Proof.Machine
end

section
/-! The obligations of the encoding rules. -/

namespace Sys2Proof.Proofs

open Sys2Proof.Machine

/-- Settles O1: a command by its fields, a micro-operation by its index; what decodes is legal. -/
theorem decodeOfEncodeIsTheInstruction : Obligations.DecodeOfEncodeIsTheInstruction :=
  fun i => ⟨decode_encode i, (wf_iff_exists_decode _).2 ⟨i, decode_encode i⟩⟩

/-- Settles O2: a case for each format of code word. -/
theorem legalCodeWordsAreTheOnesThatDecode : Obligations.LegalCodeWordsAreTheOnesThatDecode := by
  refine fun c => ⟨wf_iff_exists_decode c, fun i hi => ?_⟩
  cases c with
  | cmd m =>
    rw [encode_of_decode_cmd hi]
    simp only [carried, opOfWord_eq_append_iff]
  | md5Step j => exact encode_of_decode_md5Step hi
  | sha1Step t => exact encode_of_decode_sha1Step hi

/-- Settles O3: each word is the `commandWord` of its engine and operation. -/
theorem theEightCommandWords : Obligations.TheEightCommandWords :=
  fun p => ⟨decode_commandWord .md5 .create p, decode_commandWord .md5 .append p, decode_commandWord .md5 .finalize p,
    decode_commandWord .md5 .render p, decode_commandWord .sha1 .create p, decode_commandWord .sha1 .append p,
    decode_commandWord .sha1 .finalize p, decode_commandWord .sha1 .render p, fun _ hw => decodeCmd_illegal p hw⟩

/-- Settles O4: the entries of the step tables at those indices, and the refusal above them. -/
theorem sampleStepIndices : Obligations.SampleStepIndices :=
  ⟨decode_md5Step_ofNat 0, decode_md5Step_ofNat 19, decode_md5Step_ofNat 33, decode_md5Step_ofNat 63,
    decode_sha1Step_ofNat 1, decode_sha1Step_ofNat 20, decode_sha1Step_ofNat 59, decode_sha1Step_ofNat 79,
    fun _ => decode_sha1Step_of_le⟩

/-- Settles O21: a command's response is the answer of its engine, an illegal word's that of the engine of bit 2. -/
theorem everyCommandIsAnsweredOnce : Obligations.EveryCommandIsAnsweredOnce := by
  refine ⟨fun s p => ⟨fun i hi => ?_, fun i hi => ?_⟩, fun s w p rest hq hin hw => ?_⟩
  · obtain ⟨op, rfl⟩ := commandInstr_of_mem (alg := .md5) hi
    have ha := s.md5.answered md5Algo s.bufCap.val p op
    exact ⟨_, _, exec_commandInstr_md5 op p s, rfl, rfl, ha.faithful.ok_iff_status, ha.faithful.data_of_refused,
      fun hok => (ha.data_of_ok hok).trans (md5Algo_data _ op p)⟩
  · obtain ⟨op, rfl⟩ := commandInstr_of_mem (alg := .sha1) hi
    have ha := s.sha1.answered sha1Algo s.bufCap.val p op
    exact ⟨_, _, exec_commandInstr_sha1 op p s, rfl, rfl, ha.faithful.ok_iff_status, ha.faithful.data_of_refused,
      fun hok => (ha.data_of_ok hok).trans (sha1Algo_data _ op p)⟩
  · rw [step_illegal hq hin hw]
    cases hbit : w.getLsbD 2 with
    | false =>
      obtain ⟨hf, hok, hdata⟩ := s.md5.illegal_answer
      rw [State.illegalCommand_md5 _ hbit]
      exact ⟨_, _, rfl, rfl, rfl, hok, (Engine.status_fault _).trans hf, hdata⟩
    | true =>
      obtain ⟨hf, hok, hdata⟩ := s.sha1.illegal_answer
      rw [State.illegalCommand_sha1 _ hbit]
      exact ⟨_, _, rfl, rfl, rfl, hok, (Engine.status_fault _).trans hf, hdata⟩

end Sys2Proof.Proofs
end

section
/-! The commands (40_commands.md): the answer to each command in each phase (R110 to R118), commands between which no
FINALIZE stays open (R119), and the commands of one engine served one after another (R120, R121). -/

namespace Sys2Proof.Machine

/-! ## The status word of an answer (10_state.md R30) -/

/-- The status word with its three fields given. -/
def statusWord (q : Phase) (fault : Bool) (c : Cause) : Byte :=
  (phaseCode q).setWidth 8 ||| ((faultCode fault).setWidth 8 <<< 2) ||| ((causeCode c).setWidth 8 <<< 3)

section
variable {H R : Type} {A : Algo H} {cap n : Nat} {p d : List Byte} {ps : List (List Byte)} {op : Op} {q : Phase}
  {c : Cause} {e e' : Engine H R} {a : Answer (Engine H R)}

theorem Engine.status_eq_statusWord (e : Engine H R) : e.status = statusWord e.phase e.fault e.cause := rfl

/-- The response to a command that faults. -/
theorem Engine.resp_raiseFault (hp : e.phase = q) (c : Cause) :
    (e.raiseFault c).resp = ⟨statusWord q true c, false, []⟩ := by
  rw [Answer.resp, Engine.status_eq_statusWord, Engine.raiseFault_phase, hp]
  rfl

/-- The response to a command that executes. -/
theorem Answer.resp_executed (hp : e'.phase = q) (hf : e'.fault = false) (hc : e'.cause = .none) :
    (⟨e', true, d⟩ : Answer (Engine H R)).resp = ⟨statusWord q false .none, true, d⟩ := by
  rw [Answer.resp, Engine.status_eq_statusWord, hp, hf, hc]

/-! ## The answer to each command (R110 to R118) -/

theorem Engine.answer_faulted (hf : e.fault = true) : e.answer A cap p op = e.refuse := Engine.command_faulted hf

theorem Engine.answer_phaseFault (hf : e.fault = false) (hc : phaseFault op e.phase = some c) :
    e.answer A cap p op = e.raiseFault c :=
  Engine.command_phaseFault hf hc

/-- CREATE is legal in every phase (R118). -/
theorem Engine.answer_create (hf : e.fault = false) : e.answer A cap p .create = Engine.createBody A.iv e :=
  Engine.command_runs hf rfl

/-- APPEND in ACTIVE of a payload that does not fit. -/
theorem Engine.answer_append_overflow (hf : e.fault = false) (hp : e.phase = .active)
    (hover : cap < e.buf.length + p.length) : e.answer A cap p .append = e.raiseFault .capacity := by
  rw [Engine.answer, Engine.command_runs hf (by rw [hp]; rfl)]
  exact if_pos hover

theorem Engine.answer_render (hf : e.fault = false) (hp : e.phase = .done) :
    e.answer A cap p .render = ⟨e, true, A.hex e.h⟩ :=
  Engine.command_runs hf (by rw [hp]; rfl)

/-- With no FINALIZE open CREATE has no working state to drop (log 17). -/
theorem Engine.createBody_of_run_none {iv : H} (hr : e.run = none) :
    Engine.createBody iv e = ⟨{ e with h := iv, buf := [], phase := .active }, true, []⟩ := by
  simp [Engine.createBody, hr]

/-- With no FINALIZE open the end of FINALIZE has no working state to drop (log 17). -/
theorem Engine.close_of_run_none {h : H} (hr : e.run = none) :
    e.close A h = ⟨{ e with h := A.digestFrom h e.buf, buf := [], phase := .done }, true,
      A.digest (A.digestFrom h e.buf)⟩ := by
  simp [Engine.close, Engine.finish, hr]

/-- The digest state by the 64-byte slices of the padded message, in ascending order (R114, R115). -/
theorem Algo.digestFrom_eq_foldl_range (A : Algo H) (h : H) (msg : List Byte) :
    A.digestFrom h msg = (List.range ((pad A.order msg).length / 64)).foldl
      (fun h blk => A.compress h (((pad A.order msg).drop (64 * blk)).take 64)) h := by
  rw [Algo.digestFrom, blocksOf, List.foldl_map]
  rfl

/-! ## What a command leaves as it was (R119) -/

/-- A command opens no FINALIZE that outlives it. -/
theorem Engine.Answered.run_eq_none (h : Engine.Answered A cap p e op a) (hr : e.run = none) :
    a.engine.run = none := by
  cases h with
  | refused | raised | appended | rendered => exact hr
  | created | finalized => rfl

theorem Engine.illegal_run (e : Engine H R) : e.illegal.engine.run = e.run := by
  obtain ⟨-, ha⟩ | ⟨-, ha⟩ := e.illegal_cases <;> rw [ha] <;> rfl

/-- A command after which a fault is recorded has changed neither the digest state, nor the buffer, nor the phase
(60_exceptions.md R250, R259). -/
theorem Engine.Answered.unchanged_of_fault (h : Engine.Answered A cap p e op a) (ha : a.engine.fault = true) :
    a.engine.h = e.h ∧ a.engine.buf = e.buf ∧ a.engine.phase = e.phase := by
  cases h with
  | refused | raised => exact ⟨rfl, rfl, rfl⟩
  | created hf | appended hf | finalized hf | rendered hf => exact absurd (ha.symm.trans hf) (by decide)

/-- An APPEND after which no fault is recorded has been executed. -/
theorem Engine.Answered.appended_of_no_fault (h : Engine.Answered A cap p e .append a)
    (ha : a.engine.fault = false) : e.buf.length + p.length ≤ cap ∧ a.engine = { e with buf := e.buf ++ p } := by
  cases h with
  | refused _ hf => exact absurd (ha.symm.trans hf) (by decide)
  | raised => nomatch ha
  | appended _ _ hfit => exact ⟨hfit, rfl⟩

/-! ## Commands served one after another (R120, R121) -/

/-- The engine after commands taken in order, each an operation with a payload, and its responses. -/
def Engine.serve (A : Algo H) (cap : Nat) : List (Op × List Byte) → Engine H R → Engine H R × List Resp
  | [], e => (e, [])
  | (op, p) :: cs, e =>
    let a := e.answer A cap p op
    let r := serve A cap cs a.engine
    (r.1, a.resp :: r.2)

theorem Engine.serve_cons (op : Op) (p : List Byte) (cs : List (Op × List Byte)) (e : Engine H R) :
    e.serve A cap ((op, p) :: cs) =
      (((e.answer A cap p op).engine.serve A cap cs).1,
        (e.answer A cap p op).resp :: ((e.answer A cap p op).engine.serve A cap cs).2) := rfl

theorem Engine.serve_append (cs ds : List (Op × List Byte)) (e : Engine H R) :
    e.serve A cap (cs ++ ds) =
      (((e.serve A cap cs).1.serve A cap ds).1, (e.serve A cap cs).2 ++ ((e.serve A cap cs).1.serve A cap ds).2) := by
  induction cs generalizing e with
  | nil => rfl
  | cons c cs ih => rw [List.cons_append, Engine.serve_cons, Engine.serve_cons, ih, List.cons_append]

/-- A fault outlives every command (60_exceptions.md R259). -/
theorem Engine.fault_eq_false_of_serve {cs : List (Op × List Byte)} (h : (e.serve A cap cs).1.fault = false) :
    e.fault = false := by
  induction cs generalizing e with
  | nil => exact h
  | cons c cs ih =>
    have ha := ih h
    by_contra hf
    obtain ⟨hf', -⟩ := (e.answered A cap c.2 c.1).keepsFault (by simpa using hf)
    exact absurd (ha.symm.trans hf') (by decide)

/-- One APPEND for each chunk. -/
def appends (ps : List (List Byte)) : List (Op × List Byte) := ps.map fun p => (.append, p)

/-- Chunks that fit together are appended in order, and each APPEND answers the status the engine had. -/
theorem Engine.serve_appends (hf : e.fault = false) (hp : e.phase = .active)
    (hfit : e.buf.length + ps.flatten.length ≤ cap) :
    e.serve A cap (appends ps) =
      ({ e with buf := e.buf ++ ps.flatten }, List.replicate ps.length ⟨e.status, true, []⟩) := by
  induction ps generalizing e with
  | nil => simp [appends, Engine.serve]
  | cons p ps ih =>
    rw [List.flatten_cons, List.length_append, ← Nat.add_assoc] at hfit
    have hanswer : e.answer A cap p .append = ⟨{ e with buf := e.buf ++ p }, true, []⟩ :=
      Engine.answer_append_fits hf hp (by omega)
    have hrest := ih (e := { e with buf := e.buf ++ p }) hf hp (by simpa using hfit)
    rw [appends, List.map_cons, Engine.serve_cons, hanswer, ← appends, hrest, List.flatten_cons, ← List.append_assoc]
    rfl

/-- Chunks after which no fault is recorded fit together. -/
theorem Engine.fits_of_serve_appends (hwf : bufWf cap e.buf) (h : (e.serve A cap (appends ps)).1.fault = false) :
    e.buf.length + ps.flatten.length ≤ cap := by
  induction ps generalizing e with
  | nil => exact hwf
  | cons p ps ih =>
    obtain ⟨hfit, ha⟩ := (e.answered A cap p .append).appended_of_no_fault (Engine.fault_eq_false_of_serve h)
    have hrest := ih (e := (e.answer A cap p .append).engine) (by rw [ha]; exact bufAppend_wf hfit) h
    rw [ha, List.length_append] at hrest
    rw [List.flatten_cons, List.length_append, ← Nat.add_assoc]
    exact hrest

/-- CREATE and the chunks, when no fault is recorded after them: what is left of the chunks is their concatenation. -/
theorem Engine.serve_create_appends (h : (e.serve A cap ((.create, []) :: appends ps)).1.fault = false) :
    (e.serve A cap ((.create, []) :: appends ps)).1 =
      { (Engine.createBody A.iv e).engine with buf := ps.flatten } := by
  have hf := Engine.fault_eq_false_of_serve h
  rw [Engine.serve_cons, Engine.answer_create hf] at h ⊢
  have hfit := Engine.fits_of_serve_appends (e := (Engine.createBody A.iv e).engine) (bufWf_nil cap) h
  exact congrArg Prod.fst (Engine.serve_appends (e := (Engine.createBody A.iv e).engine) hf rfl hfit)

/-- RENDERs in DONE leave the engine as it is, and each answers the hex string. -/
theorem Engine.serve_renders (hf : e.fault = false) (hp : e.phase = .done) :
    e.serve A cap (List.replicate n (.render, [])) = (e, List.replicate n ⟨e.status, true, A.hex e.h⟩) := by
  induction n with
  | zero => rfl
  | succ n ih =>
    rw [List.replicate_succ, Engine.serve_cons, Engine.answer_render hf hp, ih]
    rfl

/-- The commands of R120, the message in any number of chunks and the digest rendered any number of times. -/
def lifecycle (ps : List (List Byte)) (n : Nat) : List (Op × List Byte) :=
  (.create, []) :: (appends ps ++ (.finalize, []) :: List.replicate n (.render, []))

/-- A created engine that has taken a message in. -/
def Engine.collecting (A : Algo H) (msg : List Byte) : Engine H R :=
  { h := A.iv, buf := msg, phase := .active, fault := false, cause := .none, run := none }

/-- The engine that has digested a message. -/
def Engine.digested (A : Algo H) (msg : List Byte) : Engine H R :=
  { h := A.digestFrom A.iv msg, buf := [], phase := .done, fault := false, cause := .none, run := none }

theorem Engine.status_collecting (msg : List Byte) : (Engine.collecting A msg : Engine H R).status = 0x01#8 :=
  show statusWord .active false .none = 0x01#8 from rfl

theorem Engine.status_digested (msg : List Byte) : (Engine.digested A msg : Engine H R).status = 0x02#8 :=
  show statusWord .done false .none = 0x02#8 from rfl

/-- What a lifecycle on a clean engine comes to. -/
theorem Engine.serve_lifecycle (hf : e.fault = false) (hc : e.cause = .none) (hfit : ps.flatten.length ≤ cap) :
    e.serve A cap (lifecycle ps n) = (Engine.digested A ps.flatten,
      ⟨0x01#8, true, []⟩ :: (List.replicate ps.length ⟨0x01#8, true, []⟩ ++
        ⟨0x02#8, true, A.digest (A.digestFrom A.iv ps.flatten)⟩ ::
          List.replicate n ⟨0x02#8, true, A.hex (A.digestFrom A.iv ps.flatten)⟩)) := by
  have hcreated : e.answer A cap [] .create = ⟨Engine.collecting A [], true, []⟩ := by
    rw [Engine.answer_create hf, Engine.createBody, hf, hc, Engine.collecting]
  have happended : (Engine.collecting A [] : Engine H R).serve A cap (appends ps) =
      (Engine.collecting A ps.flatten, List.replicate ps.length ⟨0x01#8, true, []⟩) := by
    rw [Engine.serve_appends rfl rfl ((Nat.zero_add _).trans_le hfit), Engine.status_collecting]
    rfl
  have hclosed : (Engine.collecting A ps.flatten : Engine H R).answer A cap [] .finalize =
      ⟨Engine.digested A ps.flatten, true, A.digest (A.digestFrom A.iv ps.flatten)⟩ := Engine.answer_finalize rfl rfl
  have hrendered : (Engine.digested A ps.flatten : Engine H R).serve A cap (List.replicate n (.render, [])) =
      (Engine.digested A ps.flatten, List.replicate n ⟨0x02#8, true, A.hex (A.digestFrom A.iv ps.flatten)⟩) := by
    rw [Engine.serve_renders rfl rfl, Engine.status_digested]
    rfl
  rw [lifecycle, Engine.serve_cons, hcreated, Engine.serve_append, happended, Engine.serve_cons, hclosed, hrendered,
    Answer.resp, Answer.resp, Engine.status_collecting, Engine.status_digested]

end

/-! ## The commands of one engine in the machine -/

theorem execAll_cons {i : Instr} {is : List Instr} {s t : State} (h : exec i s = .next t) :
    execAll (i :: is) s = execAll is t := by
  simp [execAll, h, nextOf]

/-- Commands of MD5 executed one after another. -/
theorem execAll_md5 (cs : List (Op × List Byte)) (s : State) :
    execAll (cs.map fun c => commandInstr .md5 c.1 c.2) s =
      some (s.putMd5 (s.md5.serve md5Algo s.bufCap.val cs).1 (s.md5.serve md5Algo s.bufCap.val cs).2) := by
  induction cs generalizing s with
  | nil => simp [execAll, Engine.serve, State.putMd5_nil]
  | cons c cs ih =>
    obtain ⟨op, p⟩ := c
    rw [List.map_cons, execAll_cons (exec_commandInstr_md5 op p s), ih]
    simp [State.putMd5, Engine.serve_cons]

/-- Commands of SHA-1 executed one after another. -/
theorem execAll_sha1 (cs : List (Op × List Byte)) (s : State) :
    execAll (cs.map fun c => commandInstr .sha1 c.1 c.2) s =
      some (s.putSha1 (s.sha1.serve sha1Algo s.bufCap.val cs).1 (s.sha1.serve sha1Algo s.bufCap.val cs).2) := by
  induction cs generalizing s with
  | nil => simp [execAll, Engine.serve, State.putSha1_nil]
  | cons c cs ih =>
    obtain ⟨op, p⟩ := c
    rw [List.map_cons, execAll_cons (exec_commandInstr_sha1 op p s), ih]
    simp [State.putSha1, Engine.serve_cons]

theorem map_md5_appends (ps : List (List Byte)) :
    ((appends ps).map fun c => commandInstr .md5 c.1 c.2) = ps.map Instr.md5Append := by
  simp [appends, commandInstr]

theorem map_sha1_appends (ps : List (List Byte)) :
    ((appends ps).map fun c => commandInstr .sha1 c.1 c.2) = ps.map Instr.sha1Append := by
  simp [appends, commandInstr]

theorem map_md5_lifecycle (ps : List (List Byte)) (n : Nat) :
    ((lifecycle ps n).map fun c => commandInstr .md5 c.1 c.2) =
      .md5Create :: (ps.map Instr.md5Append ++ .md5Finalize :: List.replicate n .md5Render) := by
  rw [lifecycle, List.map_cons, List.map_append, List.map_cons, List.map_replicate, map_md5_appends]
  rfl

theorem map_sha1_lifecycle (ps : List (List Byte)) (n : Nat) :
    ((lifecycle ps n).map fun c => commandInstr .sha1 c.1 c.2) =
      .sha1Create :: (ps.map Instr.sha1Append ++ .sha1Finalize :: List.replicate n .sha1Render) := by
  rw [lifecycle, List.map_cons, List.map_append, List.map_cons, List.map_replicate, map_sha1_appends]
  rfl

/-- What CREATE and one APPEND for each chunk leave of MD5 when no fault is recorded. -/
theorem execAll_md5_create_appends {s t : State} {ps : List (List Byte)}
    (h : execAll (.md5Create :: ps.map Instr.md5Append) s = some t) (hf : t.md5.fault = false) :
    t.md5 = { (Engine.createBody md5Iv s.md5).engine with buf := ps.flatten } := by
  rw [← map_md5_appends] at h
  obtain rfl := Option.some.inj ((execAll_md5 ((.create, []) :: appends ps) s).symm.trans h)
  exact Engine.serve_create_appends hf

/-- What CREATE and one APPEND for each chunk leave of SHA-1 when no fault is recorded. -/
theorem execAll_sha1_create_appends {s t : State} {ps : List (List Byte)}
    (h : execAll (.sha1Create :: ps.map Instr.sha1Append) s = some t) (hf : t.sha1.fault = false) :
    t.sha1 = { (Engine.createBody sha1Iv s.sha1).engine with buf := ps.flatten } := by
  rw [← map_sha1_appends] at h
  obtain rfl := Option.some.inj ((execAll_sha1 ((.create, []) :: appends ps) s).symm.trans h)
  exact Engine.serve_create_appends hf

/-! ## One command in the machine -/

section
variable {s : State} {op : Op} {p d : List Byte} {q : Phase} {c : Cause}

theorem exec_md5_faulted (op : Op) (p : List Byte) (hf : s.md5.fault = true) :
    exec (commandInstr .md5 op p) s = .next { s with outbox := s.outbox ++ [⟨s.md5.status, false, []⟩] } := by
  rw [exec_commandInstr_md5, Engine.answer_faulted hf]
  rfl

theorem exec_sha1_faulted (op : Op) (p : List Byte) (hf : s.sha1.fault = true) :
    exec (commandInstr .sha1 op p) s = .next { s with outbox := s.outbox ++ [⟨s.sha1.status, false, []⟩] } := by
  rw [exec_commandInstr_sha1, Engine.answer_faulted hf]
  rfl

/-- A command of MD5 whose answer is a new fault. -/
theorem exec_md5_raised (hp : s.md5.phase = q)
    (ha : s.md5.answer md5Algo s.bufCap.val p op = s.md5.raiseFault c) :
    exec (commandInstr .md5 op p) s = .next { s with
      md5 := { s.md5 with fault := true, cause := c },
      outbox := s.outbox ++ [⟨statusWord q true c, false, []⟩] } := by
  rw [exec_commandInstr_md5, ha, State.answerMd5, Engine.resp_raiseFault hp]
  rfl

/-- A command of SHA-1 whose answer is a new fault. -/
theorem exec_sha1_raised (hp : s.sha1.phase = q)
    (ha : s.sha1.answer sha1Algo s.bufCap.val p op = s.sha1.raiseFault c) :
    exec (commandInstr .sha1 op p) s = .next { s with
      sha1 := { s.sha1 with fault := true, cause := c },
      outbox := s.outbox ++ [⟨statusWord q true c, false, []⟩] } := by
  rw [exec_commandInstr_sha1, ha, State.answerSha1, Engine.resp_raiseFault hp]
  rfl

/-- A command of MD5 that its phase forbids (R118). -/
theorem exec_md5_phaseFault (op : Op) (p : List Byte) (hf : s.md5.fault = false) (hp : s.md5.phase = q)
    (hc : phaseFault op q = some c) :
    exec (commandInstr .md5 op p) s = .next { s with
      md5 := { s.md5 with fault := true, cause := c },
      outbox := s.outbox ++ [⟨statusWord q true c, false, []⟩] } :=
  exec_md5_raised hp (Engine.answer_phaseFault hf (hp ▸ hc))

/-- A command of SHA-1 that its phase forbids (R118). -/
theorem exec_sha1_phaseFault (op : Op) (p : List Byte) (hf : s.sha1.fault = false) (hp : s.sha1.phase = q)
    (hc : phaseFault op q = some c) :
    exec (commandInstr .sha1 op p) s = .next { s with
      sha1 := { s.sha1 with fault := true, cause := c },
      outbox := s.outbox ++ [⟨statusWord q true c, false, []⟩] } :=
  exec_sha1_raised hp (Engine.answer_phaseFault hf (hp ▸ hc))

/-- A command of MD5 that executes and leaves the engine clean. -/
theorem exec_md5_executed {e : Md5Engine} (ha : s.md5.answer md5Algo s.bufCap.val p op = ⟨e, true, d⟩)
    (hp : e.phase = q) (hf : e.fault = false) (hc : e.cause = .none) :
    exec (commandInstr .md5 op p) s =
      .next { s with md5 := e, outbox := s.outbox ++ [⟨statusWord q false .none, true, d⟩] } := by
  rw [exec_commandInstr_md5, ha, State.answerMd5, Answer.resp_executed hp hf hc]

/-- A command of SHA-1 that executes and leaves the engine clean. -/
theorem exec_sha1_executed {e : Sha1Engine} (ha : s.sha1.answer sha1Algo s.bufCap.val p op = ⟨e, true, d⟩)
    (hp : e.phase = q) (hf : e.fault = false) (hc : e.cause = .none) :
    exec (commandInstr .sha1 op p) s =
      .next { s with sha1 := e, outbox := s.outbox ++ [⟨statusWord q false .none, true, d⟩] } := by
  rw [exec_commandInstr_sha1, ha, State.answerSha1, Answer.resp_executed hp hf hc]

end

/-! ## Between commands (R119) -/

/-- The eight commands are the operations of the two engines. -/
theorem commandInstr_of_mem_commands {i : Instr} {p : List Byte}
    (h : i ∈ ([.md5Create, .md5Append p, .md5Finalize, .md5Render, .sha1Create, .sha1Append p, .sha1Finalize,
      .sha1Render] : List Instr)) : ∃ alg op, i = commandInstr alg op p := by
  obtain h | h := (List.mem_append (s := [Instr.md5Create, .md5Append p, .md5Finalize, .md5Render])).1 h
  · exact ⟨.md5, commandInstr_of_mem h⟩
  · exact ⟨.sha1, commandInstr_of_mem h⟩

theorem State.Quiescent.exec_command {s : State} (hq : s.Quiescent) (alg : Alg) (op : Op) (p : List Byte) :
    ∃ t, exec (commandInstr alg op p) s = .next t ∧ t.Quiescent := by
  obtain ⟨hmd5, hsha1⟩ := hq
  cases alg with
  | md5 => exact ⟨_, exec_commandInstr_md5 op p s, (s.md5.answered ..).run_eq_none hmd5, hsha1⟩
  | sha1 => exact ⟨_, exec_commandInstr_sha1 op p s, hmd5, (s.sha1.answered ..).run_eq_none hsha1⟩

theorem State.Quiescent.illegalCommand {s : State} (hq : s.Quiescent) (w : Byte) :
    (s.illegalCommand w).Quiescent := by
  obtain ⟨hmd5, hsha1⟩ := hq
  unfold State.illegalCommand
  cases algOfWord w with
  | md5 => exact ⟨s.md5.illegal_run.trans hmd5, hsha1⟩
  | sha1 => exact ⟨hmd5, s.sha1.illegal_run.trans hsha1⟩

/-- From a state between commands a step ends between commands. -/
theorem State.Quiescent.step {s : State} (hq : s.Quiescent) : ∃ t, step s = .next t ∧ t.Quiescent := by
  obtain ⟨r, hr, -⟩ | ⟨r, -, hr, -⟩ | ⟨-, -, hs⟩ | ⟨rest, -, -, hs⟩ | ⟨c, rest, i, -, -, hi, hs⟩ |
    ⟨c, rest, -, -, -, hs⟩ := step_cases s
  · exact absurd (hq.1.symm.trans hr) nofun
  · exact absurd (hq.2.symm.trans hr) nofun
  · exact ⟨s, hs, hq⟩
  · exact ⟨_, hs, rfl, rfl⟩
  · rw [hs, decodeCmd_cases hi]
    exact State.Quiescent.exec_command (s := { s with inbox := rest }) hq ..
  · exact ⟨_, hs, State.Quiescent.illegalCommand (s := { s with inbox := rest }) hq c.word⟩

end Sys2Proof.Machine
end

section
/-! The obligations of the command rules. -/

namespace Sys2Proof.Proofs

open Sys2Proof.Machine

/-- Settles O26: the commands of a lifecycle served by one engine, by induction on the chunks and on the RENDERs. -/
theorem digestIsThatOfTheConcatenation : Obligations.DigestIsThatOfTheConcatenation := by
  refine ⟨fun s ps n hf hc _ hfit => ?_, fun s ps n hf hc _ hfit => ?_⟩
  · rw [← map_md5_lifecycle, execAll_md5, Engine.serve_lifecycle hf hc hfit]
    exact ⟨_, rfl, rfl, rfl, rfl, rfl⟩
  · rw [← map_sha1_lifecycle, execAll_sha1, Engine.serve_lifecycle hf hc hfit]
    exact ⟨_, rfl, rfl, rfl, rfl, rfl⟩

/-- Settles O27: where no fault is recorded the buffer is the concatenation of the chunks, however many there are. -/
theorem chunkBoundariesDoNotMatter : Obligations.ChunkBoundariesDoNotMatter := by
  refine ⟨fun s t u ps ht hu htf huf => ?_, fun s t u ps ht hu htf huf => ?_⟩
  · have heq : t.md5 = u.md5 := by
      rw [execAll_md5_create_appends ht htf, execAll_md5_create_appends (ps := [ps.flatten]) hu huf,
        List.flatten_singleton]
    refine ⟨heq, _, _, exec_commandInstr_md5 .finalize [] t, exec_commandInstr_md5 .finalize [] u, ?_⟩
    simp only [State.answerMd5_outbox, List.getLast?_concat, heq]
    rfl
  · have heq : t.sha1 = u.sha1 := by
      rw [execAll_sha1_create_appends ht htf, execAll_sha1_create_appends (ps := [ps.flatten]) hu huf,
        List.flatten_singleton]
    refine ⟨heq, _, _, exec_commandInstr_sha1 .finalize [] t, exec_commandInstr_sha1 .finalize [] u, ?_⟩
    simp only [State.answerSha1_outbox, List.getLast?_concat, heq]
    rfl

/-- Settles O30: no command opens a FINALIZE that outlives it, and an answer that leaves a fault recorded changes at
most FAULT and CAUSE. -/
theorem betweenCommandsNoFinalizeStaysOpen : Obligations.BetweenCommandsNoFinalizeStaysOpen := by
  refine ⟨fun s hq => hq.step, fun s p i hi => ?_⟩
  obtain ⟨alg, op, rfl⟩ := commandInstr_of_mem_commands hi
  cases alg with
  | md5 =>
    exact ⟨_, exec_commandInstr_md5 op p s, (s.md5.answered ..).unchanged_of_fault, fun _ => ⟨rfl, rfl, rfl⟩⟩
  | sha1 =>
    exact ⟨_, exec_commandInstr_sha1 op p s, fun _ => ⟨rfl, rfl, rfl⟩, (s.sha1.answered ..).unchanged_of_fault⟩

/-- Settles O31: between commands a step ends between commands; inside FINALIZE the working registers exist. -/
theorem theMachineNeverStops : Obligations.TheMachineNeverStops := by
  intro s
  cases hmd5 : s.md5.run with
  | some r =>
    obtain ⟨e', rs, -, hs⟩ := md5StepOp_micro r.step hmd5
    exact ⟨_, (step_of_md5Run hmd5).trans (hs s rfl)⟩
  | none =>
    cases hsha1 : s.sha1.run with
    | some r =>
      obtain ⟨e', rs, -, hs⟩ := sha1StepOp_micro r.step hsha1
      exact ⟨_, (step_of_sha1Run hmd5 hsha1).trans (hs s rfl)⟩
    | none =>
      obtain ⟨t, ht, -⟩ := State.Quiescent.step (s := s) ⟨hmd5, hsha1⟩
      exact ⟨t, ht⟩

/-- Settles O10: the prologue lets CREATE pass in every phase. -/
theorem md5CreateResult : Obligations.Md5CreateResult := by
  refine fun s hr => ⟨fun hf hc => ?_, exec_md5_faulted .create [], decode_commandWord .md5 .create⟩
  have ha := Engine.answer_create (A := md5Algo) (cap := s.bufCap.val) (p := []) hf
  exact exec_md5_executed (q := .active) (ha.trans (Engine.createBody_of_run_none hr)) rfl hf hc

/-- Settles O11: the prologue lets CREATE pass in every phase. -/
theorem sha1CreateResult : Obligations.Sha1CreateResult := by
  refine fun s hr => ⟨fun hf hc => ?_, exec_sha1_faulted .create [], decode_commandWord .sha1 .create⟩
  have ha := Engine.answer_create (A := sha1Algo) (cap := s.bufCap.val) (p := []) hf
  exact exec_sha1_executed (q := .active) (ha.trans (Engine.createBody_of_run_none hr)) rfl hf hc

/-- Settles O12: in ACTIVE the payload fits or not; the prologue raises the fault of the other phases. -/
theorem md5AppendResult : Obligations.Md5AppendResult := by
  refine fun s p => ⟨fun hf hc => ⟨fun hp hfit => ?_, fun hp hover => ?_, fun hp => ?_, fun hp => ?_⟩,
    exec_md5_faulted .append p, decode_commandWord .md5 .append p⟩
  · exact exec_md5_executed (Engine.answer_append_fits hf hp hfit) hp hf hc
  · exact exec_md5_raised hp (Engine.answer_append_overflow hf hp hover)
  · exact exec_md5_phaseFault .append p hf hp rfl
  · exact exec_md5_phaseFault .append p hf hp rfl

/-- Settles O13: in ACTIVE the payload fits or not; the prologue raises the fault of the other phases. -/
theorem sha1AppendResult : Obligations.Sha1AppendResult := by
  refine fun s p => ⟨fun hf hc => ⟨fun hp hfit => ?_, fun hp hover => ?_, fun hp => ?_, fun hp => ?_⟩,
    exec_sha1_faulted .append p, decode_commandWord .sha1 .append p⟩
  · exact exec_sha1_executed (Engine.answer_append_fits hf hp hfit) hp hf hc
  · exact exec_sha1_raised hp (Engine.answer_append_overflow hf hp hover)
  · exact exec_sha1_phaseFault .append p hf hp rfl
  · exact exec_sha1_phaseFault .append p hf hp rfl

/-- Settles O14: in ACTIVE the blocks are the slices of the padded buffer, all whole, so INVARIANT is not raised. -/
theorem md5FinalizeResult : Obligations.Md5FinalizeResult := by
  refine fun s hr => ⟨fun hf hc => ⟨fun hp => ?_, fun hp => ?_, fun hp => ?_⟩, exec_md5_faulted .finalize [],
    decode_commandWord .md5 .finalize⟩
  · have ha := Engine.answer_finalize (A := md5Algo) (cap := s.bufCap.val) (p := []) hf hp
    rw [Engine.close_of_run_none hr, Algo.digestFrom_eq_foldl_range] at ha
    exact exec_md5_executed (q := .done) ha rfl hf hc
  · exact exec_md5_phaseFault .finalize [] hf hp rfl
  · exact exec_md5_phaseFault .finalize [] hf hp rfl

/-- Settles O15: in ACTIVE the blocks are the slices of the padded buffer, all whole, so INVARIANT is not raised. -/
theorem sha1FinalizeResult : Obligations.Sha1FinalizeResult := by
  refine fun s hr => ⟨fun hf hc => ⟨fun hp => ?_, fun hp => ?_, fun hp => ?_⟩, exec_sha1_faulted .finalize [],
    decode_commandWord .sha1 .finalize⟩
  · have ha := Engine.answer_finalize (A := sha1Algo) (cap := s.bufCap.val) (p := []) hf hp
    rw [Engine.close_of_run_none hr, Algo.digestFrom_eq_foldl_range] at ha
    exact exec_sha1_executed (q := .done) ha rfl hf hc
  · exact exec_sha1_phaseFault .finalize [] hf hp rfl
  · exact exec_sha1_phaseFault .finalize [] hf hp rfl

/-- Settles O16: in DONE the hex string; the prologue raises the fault of the other phases. -/
theorem md5RenderResult : Obligations.Md5RenderResult := by
  refine fun s => ⟨fun hf hc => ⟨fun hp => ?_, fun hp => ?_, fun hp => ?_⟩, exec_md5_faulted .render [],
    decode_commandWord .md5 .render⟩
  · exact exec_md5_executed (p := []) (Engine.answer_render hf hp) hp hf hc
  · exact exec_md5_phaseFault .render [] hf hp rfl
  · exact exec_md5_phaseFault .render [] hf hp rfl

/-- Settles O17: in DONE the hex string; the prologue raises the fault of the other phases. -/
theorem sha1RenderResult : Obligations.Sha1RenderResult := by
  refine fun s => ⟨fun hf hc => ⟨fun hp => ?_, fun hp => ?_, fun hp => ?_⟩, exec_sha1_faulted .render [],
    decode_commandWord .sha1 .render⟩
  · exact exec_sha1_executed (p := []) (Engine.answer_render hf hp) hp hf hc
  · exact exec_sha1_phaseFault .render [] hf hp rfl
  · exact exec_sha1_phaseFault .render [] hf hp rfl

end Sys2Proof.Proofs
end

section
/-! What the padder's parts are and where they lie, and the cut into blocks (41_padding_sequencing.md R140 to R147). -/

namespace Sys2Proof.Machine

/-! ## How many bytes, how many blocks (R143, R147) -/

/-- The loop's stopping condition (R140): with the length field to come, whole blocks. -/
theorem paddedLength_mod (n : Nat) : (n + 1 + zeroCount n + 8) % 64 = 0 := by
  unfold zeroCount
  omega

theorem zeroCount_le (n : Nat) : zeroCount n ≤ 63 := by
  unfold zeroCount
  omega

/-- The two facts above leave one value: the loop stops at the first count that meets its condition (R140). -/
theorem zeroCount_le_of_mod {n z : Nat} (h : (n + 1 + z + 8) % 64 = 0) : zeroCount n ≤ z := by
  have hmod := paddedLength_mod n
  have hle := zeroCount_le n
  omega

/-- The count as R143 writes it. -/
theorem cast_zeroCount (n : Nat) : (zeroCount n : Int) = (55 - (n : Int)) % 64 := by
  have hmod := paddedLength_mod n
  have hle := zeroCount_le n
  omega

/-- The length field still fits in the message's last block. -/
theorem zeroCount_of_le {n : Nat} (h : n % 64 ≤ 55) : zeroCount n = 55 - n % 64 := by
  have hmod := paddedLength_mod n
  have hle := zeroCount_le n
  omega

/-- The length field needs a block after the message's last. -/
theorem zeroCount_of_ge {n : Nat} (h : 56 ≤ n % 64) : zeroCount n = 119 - n % 64 := by
  have hmod := paddedLength_mod n
  have hle := zeroCount_le n
  omega

/-- No zeros where the marker and the length field fill the message's last block. -/
theorem zeroCount_eq_zero_iff (n : Nat) : zeroCount n = 0 ↔ n % 64 = 55 := by
  have hmod := paddedLength_mod n
  have hle := zeroCount_le n
  omega

theorem pad_length_mod (o : ByteOrder) (msg : List Byte) : (pad o msg).length % 64 = 0 := by
  rw [pad_length, paddedLength_mod]

theorem nblk_pad (o : ByteOrder) (msg : List Byte) : nblk (pad o msg) = (msg.length + 8) / 64 + 1 := by
  have hmod := paddedLength_mod msg.length
  have hle := zeroCount_le msg.length
  rw [nblk, pad_length]
  omega

/-! ## Where the parts lie (R140) -/

theorem take_length_pad (o : ByteOrder) (msg : List Byte) : (pad o msg).take msg.length = msg := by
  rw [pad, List.take_left]

theorem getElem?_pad_marker (o : ByteOrder) (msg : List Byte) : (pad o msg)[msg.length]? = some 0x80#8 := by
  simp [pad]

theorem getElem?_pad_zero (o : ByteOrder) (msg : List Byte) {k : Nat} (hk : k < zeroCount msg.length) :
    (pad o msg)[msg.length + 1 + k]? = some 0x00#8 := by
  rw [pad, List.getElem?_append_right (by omega), show msg.length + 1 + k - msg.length = k + 1 by omega,
    List.getElem?_cons_succ, List.getElem?_append_left (by simpa), List.getElem?_replicate_of_lt hk]

theorem drop_pad (o : ByteOrder) (msg : List Byte) :
    (pad o msg).drop ((pad o msg).length - 8) = lengthField o msg.length := by
  rw [pad, ← List.cons_append, ← List.append_assoc, List.length_append, lengthField_length, Nat.add_sub_cancel,
    List.drop_left]

/-! ## What the length field holds (R54, R140) -/

/-- The number whose bytes are read, the most significant first. -/
def beValue (bs : List Byte) : Nat := bs.foldl (fun acc b => 256 * acc + b.toNat) 0

theorem beValue_be64Bytes (v : BitVec 64) : beValue (be64Bytes v) = v.toNat := by
  have hv := v.isLt
  have hbytes : be64Bytes v = [dwordByte v 7, dwordByte v 6, dwordByte v 5, dwordByte v 4, dwordByte v 3,
      dwordByte v 2, dwordByte v 1, dwordByte v 0] := rfl
  simp only [hbytes, beValue, List.foldl_cons, List.foldl_nil, toNat_dwordByte]
  omega

theorem beValue_reverse_le64Bytes (v : BitVec 64) : beValue (le64Bytes v).reverse = v.toNat := by
  rw [← be64Bytes_eq_reverse, beValue_be64Bytes]

/-! ## The cut into blocks (R145) -/

theorem length_of_mem_blocksOf {p b : List Byte} (h : b ∈ blocksOf p) : b.length = 64 := by
  obtain ⟨blk, hblk, rfl⟩ := List.mem_map.1 h
  exact blockAt_length (List.mem_range.1 hblk)

/-- The first `k` blocks in order are the first `64 * k` bytes. -/
theorem flatten_map_blockAt (p : List Byte) (k : Nat) :
    ((List.range k).map (blockAt p)).flatten = p.take (64 * k) := by
  induction k with
  | zero => simp
  | succ k ih =>
    rw [List.range_succ, List.map_append, List.flatten_append, ih, Nat.mul_succ, List.take_add]
    simp [blockAt, memRead]

/-- Blocks in order are the whole of a sequence of whole blocks. -/
theorem flatten_blocksOf {p : List Byte} (h : p.length % 64 = 0) : (blocksOf p).flatten = p := by
  rw [blocksOf, flatten_map_blockAt, nblk, Nat.mul_div_cancel' (Nat.dvd_of_mod_eq_zero h), List.take_length]

end Sys2Proof.Machine
end

section
/-! The obligations of the padder and of the cut into blocks. -/

namespace Sys2Proof.Proofs

open Sys2Proof.Machine

/-- Settles O32: the count is the least that meets the loop's stopping condition, and the cases are those of a length
field that fits in the message's last block and of one that does not. -/
theorem zeroCountIsTheLoopsCount : Obligations.ZeroCountIsTheLoopsCount := by
  exact fun n => ⟨paddedLength_mod n, fun _ => zeroCount_le_of_mod, zeroCount_le n, cast_zeroCount n,
    zeroCount_eq_zero_iff n, zeroCount_of_le, zeroCount_of_ge, fun o msg hn => hn ▸ pad_length o msg⟩

/-- Settles O33: the parts of the padded message one after another; the length field is read in its engine's order. -/
theorem paddedMessageLayout : Obligations.PaddedMessageLayout := by
  intro o msg hn p last
  have hlast : last = lengthField o msg.length := drop_pad o msg
  refine ⟨pad_length_mod o msg, take_length_pad o msg, getElem?_pad_marker o msg, fun j hlo hhi => ?_, ?_, ?_⟩
  · obtain ⟨k, rfl⟩ := Nat.exists_eq_add_of_lt hlo
    rw [Nat.add_right_comm]
    exact getElem?_pad_zero o msg (by omega)
  · rw [hlast, lengthField_length]
  · rw [hlast, ← bitLength_toNat hn]
    cases o with
    | le => exact beValue_reverse_le64Bytes _
    | be => exact beValue_be64Bytes _

/-- Settles O34: the count is `nblk_pad`'s, and the padded length is a multiple of the block length. -/
theorem blockCount : Obligations.BlockCount := by
  intro o msg n
  have hcount : nblk (pad o msg) = (n + 8) / 64 + 1 := nblk_pad o msg
  exact ⟨hcount, by omega, fun _ => by omega, fun _ _ => by omega, fun _ _ => by omega, fun _ _ => by omega,
    fun _ => length_of_mem_blocksOf, flatten_blocksOf (pad_length_mod o msg)⟩

end Sys2Proof.Proofs
end

section
/-! The MD5 compression (42_md5_compress.md): the nonlinear functions bit by bit (R162 to R165, with SHA-1's of
43_sha1_compress.md R203 to R206), the step with the library's rotation (R166), and a step micro-operation on an open
FINALIZE. -/

namespace Sys2Proof.Machine

/-! ## The nonlinear functions, bit by bit (R162 to R165; 43_sha1_compress.md R203 to R206) -/

section
variable (b c d : Word) {j : Nat}

/-- Masking with a bit and with its complement is a choice. -/
theorem and_or_not_and_eq_ite (p x y : Bool) : (p && x || !p && y) = if p then x else y := by
  cases p <;> simp

/-- Of three bits, some two are both 1 where at least two are 1. -/
theorem and_or_and_or_and_eq_decide (x y z : Bool) :
    (x && y || x && z || y && z) = decide (2 ≤ x.toNat + y.toNat + z.toNat) := by
  revert x y z
  decide

/-- R163: `G` is `F` with the selecting word last. -/
theorem md5G_eq_md5F : md5G b c d = md5F d b c := by
  rw [md5G, md5F, BitVec.and_comm b d, BitVec.and_comm c]

/-- SHA-1's choice is MD5's `F`. -/
theorem sha1Ch_eq_md5F : sha1Ch b c d = md5F b c d := rfl

/-- SHA-1's parity is MD5's `Hf`. -/
theorem sha1Parity_eq_md5Hf : sha1Parity b c d = md5Hf b c d := rfl

theorem getLsbD_md5F (hj : j < 32) :
    (md5F b c d).getLsbD j = if b.getLsbD j then c.getLsbD j else d.getLsbD j := by
  rw [← and_or_not_and_eq_ite]
  simp [md5F, hj]

theorem getLsbD_md5Hf : (md5Hf b c d).getLsbD j = (b.getLsbD j ^^ c.getLsbD j ^^ d.getLsbD j) := by
  simp [md5Hf]

theorem getLsbD_md5I (hj : j < 32) :
    (md5I b c d).getLsbD j = (c.getLsbD j ^^ (b.getLsbD j || !d.getLsbD j)) := by
  simp [md5I, hj]

theorem getLsbD_sha1Maj : (sha1Maj b c d).getLsbD j =
    decide (2 ≤ (b.getLsbD j).toNat + (c.getLsbD j).toNat + (d.getLsbD j).toNat) := by
  rw [← and_or_and_or_and_eq_decide]
  simp [sha1Maj]

end

/-! ## The step (R166, R174) -/

/-- The function of a step is that of its round. -/
theorem md5Func_congr_round {i j : Fin 64} (h : md5Round i = md5Round j) : md5Func i = md5Func j := by
  unfold md5Func
  rw [h]

theorem romS_lt : ∀ i : Fin 64, romS i < 32 := by decide

/-- R166 with the library's rotation. -/
theorem md5Step_eq_rotateLeft (x : Vector Word 16) (w : Md5Words) (i : Fin 64) :
    md5Step x w i = ⟨w.d, w.b + (w.a + md5Func i w.b w.c w.d + x.get (romG i) + romT i).rotateLeft (romS i),
      w.b, w.c⟩ := by
  rw [md5Step, rotl_eq_rotateLeft (romS_lt i)]

/-! ## A step on an open FINALIZE (R166, 10_state.md R33) -/

section
variable {s : State} {r : Md5Run} (hr : s.md5.run = some r)
include hr

/-- Before the last step the working registers and the counter change, and nothing else. -/
theorem exec_md5StepInstr_of_lt {i : Fin 64} (hi : i.val + 1 < 64) :
    exec (md5StepInstr i) s =
      .next (s.setMd5Run (some { r with work := md5Step r.x r.work i, step := ⟨i.val + 1, hi⟩ })) := by
  simp [exec_md5StepInstr, md5StepOp, hr, hi]

/-- After the last step the block is left. -/
theorem exec_md5Step63 :
    exec .md5Step63 s = .next (s.leaveMd5Block { r with work := md5Step r.x r.work 63 }) := by
  have hop : exec .md5Step63 s = md5StepOp 63 s := exec_md5StepInstr 63 s
  simp [hop, md5StepOp, hr]

end

/-! ## The rows of the step ROM (R178) -/

/-- The row of step `i`: its micro-operation, the counter after it, the word index, the shift and the constant. -/
def md5Row (i : Fin 64) : Instr × Fin 64 × Fin 16 × Nat × Word :=
  (md5StepInstr i, i + 1, romG i, romS i, romT i)

/-- The rows of the steps in the round of step `j`, without step 63, which leaves the block (10_state.md R33). -/
def md5RoundRows (j : Fin 64) : List (Instr × Fin 64 × Fin 16 × Nat × Word) :=
  ((List.finRange 64).filter fun i => md5Round i = md5Round j ∧ i.val + 1 < 64).map md5Row

/-- Each row of a round does the step with the function of the round. -/
theorem exec_of_mem_md5RoundRows (j : Fin 64) {row : Instr × Fin 64 × Fin 16 × Nat × Word}
    (hrow : row ∈ md5RoundRows j) {s : State} {r : Md5Run} (hr : s.md5.run = some r) :
    exec row.1 s = .next (s.setMd5Run (some { r with
      step := row.2.1,
      work := ⟨r.work.d, r.work.b + (r.work.a + md5Func j r.work.b r.work.c r.work.d + r.x.get row.2.2.1 +
        row.2.2.2.2).rotateLeft row.2.2.2.1, r.work.b, r.work.c⟩ })) := by
  obtain ⟨i, hi, rfl⟩ := List.mem_map.1 hrow
  obtain ⟨hround, hlt⟩ := of_decide_eq_true (List.mem_filter.1 hi).2
  have hnext : (⟨i.val + 1, hlt⟩ : Fin 64) = i + 1 := Fin.ext (Nat.mod_eq_of_lt hlt).symm
  rw [md5Row, exec_md5StepInstr_of_lt hr hlt, md5Step_eq_rotateLeft, md5Func_congr_round hround, hnext]

end Sys2Proof.Machine
end

section
/-! The obligations of the MD5 compression. -/

namespace Sys2Proof.Proofs

open Sys2Proof.Machine

/-- Settles O37: a choice, a parity, `I` and the majority, each read at one bit; SHA-1's choice and parity are MD5's. -/
theorem nonlinearFunctionsPerBit : Obligations.NonlinearFunctionsPerBit := by
  intro b c d j hj
  refine ⟨getLsbD_md5F b c d hj, ?_, getLsbD_md5Hf b c d, getLsbD_md5I b c d hj, ?_, ?_, getLsbD_sha1Maj b c d,
    md5G_eq_md5F b c d⟩
  · rw [md5G_eq_md5F, getLsbD_md5F d b c hj]
  · rw [sha1Ch_eq_md5F, getLsbD_md5F b c d hj]
  · rw [sha1Parity_eq_md5Hf, getLsbD_md5Hf]

/-- Settles O41: the table evaluates to the rows of the round of step 0. -/
theorem md5Round1Steps : Obligations.Md5Round1Steps :=
  fun _ hrow _ _ hr => exec_of_mem_md5RoundRows 0 hrow hr

/-- Settles O42: the table evaluates to the rows of the round of step 16. -/
theorem md5Round2Steps : Obligations.Md5Round2Steps :=
  fun _ hrow _ _ hr => exec_of_mem_md5RoundRows 16 hrow hr

/-- Settles O43: the table evaluates to the rows of the round of step 32. -/
theorem md5Round3Steps : Obligations.Md5Round3Steps :=
  fun _ hrow _ _ hr => exec_of_mem_md5RoundRows 32 hrow hr

/-- Settles O44: the table evaluates to the rows of the round of step 48, step 63 left out. -/
theorem md5Round4Steps : Obligations.Md5Round4Steps :=
  fun _ hrow _ _ hr => exec_of_mem_md5RoundRows 48 hrow hr

/-- Settles O45: the step with its own row, then the two ways to leave the block. -/
theorem md5LastStepLeavesTheBlock : Obligations.Md5LastStepLeavesTheBlock := by
  intro s r hr w h
  have hfeed : md5Feed s.md5.h (md5Step r.x r.work 63) = h := by
    rw [md5Step_eq_rotateLeft]
    rfl
  rw [exec_md5Step63 hr]
  obtain ⟨hnext, hleave⟩ | ⟨hend, hleave⟩ :=
    State.leaveMd5Block_cases s { r with work := md5Step r.x r.work 63 } <;> rw [hleave, hfeed]
  · exact ⟨fun _ => rfl, fun hle => absurd hnext (Nat.not_lt.2 hle)⟩
  · exact ⟨fun hlt => absurd hlt hend, fun _ => rfl⟩

end Sys2Proof.Proofs
end

section
/-! The SHA-1 compression (43_sha1_compress.md): the step with the library's rotations (R208) and a step micro-operation
on an open FINALIZE. -/

namespace Sys2Proof.Machine

/-! ## The step (R207, R208) -/

/-- The function of a step is that of its stage (R203 to R206). -/
theorem sha1Func_congr_stage {t u : Fin 80} (h : sha1Stage t = sha1Stage u) : sha1Func t = sha1Func u := by
  unfold sha1Func
  rw [h]

/-- The constant of a step is that of its stage (R207). -/
theorem romK_congr_stage {t u : Fin 80} (h : sha1Stage t = sha1Stage u) : romK t = romK u := by
  unfold romK
  rw [h]

/-- The `temp` of R208 with the library's rotation. -/
theorem sha1Temp_eq_rotateLeft (w : Vector Word 80) (r : Sha1Words) (t : Fin 80) :
    sha1Temp w r t = r.a.rotateLeft 5 + sha1Func t r.b r.c r.d + r.e + romK t + w.get t := by
  rw [sha1Temp, rotl_eq_rotateLeft (by decide)]

/-- The shift of R208 with the library's rotation. -/
theorem sha1Shift_eq_rotateLeft (r : Sha1Words) (temp : Word) :
    sha1Shift r temp = ⟨temp, r.a, r.b.rotateLeft 30, r.c, r.d⟩ := by
  rw [sha1Shift, rotl_eq_rotateLeft (by decide)]

/-! ## A step on an open FINALIZE (R208, 10_state.md R33) -/

section
variable {s : State} {r : Sha1Run} (hr : s.sha1.run = some r)
include hr

/-- Before the last step the working registers, `temp` and the counter change, and nothing else. -/
theorem exec_sha1StepInstr_of_lt {t : Fin 80} (ht : t.val + 1 < 80) :
    exec (sha1StepInstr t) s =
      .next (s.setSha1Run (some { r with
        work := sha1Step r.w r.work t, temp := sha1Temp r.w r.work t, step := ⟨t.val + 1, ht⟩ })) := by
  simp [exec_sha1StepInstr, sha1StepOp, hr, ht, sha1Step]

/-- After the last step the block is left. -/
theorem exec_sha1Step79 :
    exec .sha1Step79 s =
      .next (s.leaveSha1Block { r with work := sha1Step r.w r.work 79, temp := sha1Temp r.w r.work 79 }) := by
  have hop : exec .sha1Step79 s = sha1StepOp 79 s := exec_sha1StepInstr 79 s
  simp [hop, sha1StepOp, hr, sha1Step]

end

/-! ## The steps of a stage (R203 to R206) -/

/-- The row of step `t`: its micro-operation, its index and the counter after it. -/
def sha1Row (t : Fin 80) : Instr × Fin 80 × Fin 80 := (sha1StepInstr t, t, t + 1)

/-- The rows of the steps in the stage of step `u`, without step 79, which leaves the block (10_state.md R33). -/
def sha1StageRows (u : Fin 80) : List (Instr × Fin 80 × Fin 80) :=
  ((List.finRange 80).filter fun t => sha1Stage t = sha1Stage u ∧ t.val + 1 < 80).map sha1Row

/-- Each row of a stage does the step with the function and the constant of the stage. -/
theorem exec_of_mem_sha1StageRows (u : Fin 80) {row : Instr × Fin 80 × Fin 80} (hrow : row ∈ sha1StageRows u)
    {s : State} {r : Sha1Run} (hr : s.sha1.run = some r) :
    let temp := r.work.a.rotateLeft 5 + sha1Func u r.work.b r.work.c r.work.d + r.work.e + romK u + r.w.get row.2.1
    exec row.1 s = .next (s.setSha1Run (some { r with
      step := row.2.2, temp := temp,
      work := ⟨temp, r.work.a, r.work.b.rotateLeft 30, r.work.c, r.work.d⟩ })) := by
  obtain ⟨t, ht, rfl⟩ := List.mem_map.1 hrow
  obtain ⟨hstage, hlt⟩ := of_decide_eq_true (List.mem_filter.1 ht).2
  have hnext : (⟨t.val + 1, hlt⟩ : Fin 80) = t + 1 := Fin.ext (Nat.mod_eq_of_lt hlt).symm
  rw [sha1Row, exec_sha1StepInstr_of_lt hr hlt, sha1Step, sha1Shift_eq_rotateLeft, sha1Temp_eq_rotateLeft,
    sha1Func_congr_stage hstage, romK_congr_stage hstage, hnext]

end Sys2Proof.Machine
end

section
/-! The obligations of the SHA-1 compression. -/

namespace Sys2Proof.Proofs

open Sys2Proof.Machine

/-- Settles O46: the table evaluates to the rows of the stage of step 0. -/
theorem sha1Stage0Steps : Obligations.Sha1Stage0Steps :=
  fun _ hrow _ _ hr => exec_of_mem_sha1StageRows 0 hrow hr

/-- Settles O47: the table evaluates to the rows of the stage of step 20. -/
theorem sha1Stage1Steps : Obligations.Sha1Stage1Steps :=
  fun _ hrow _ _ hr => exec_of_mem_sha1StageRows 20 hrow hr

/-- Settles O48: the table evaluates to the rows of the stage of step 40. -/
theorem sha1Stage2Steps : Obligations.Sha1Stage2Steps :=
  fun _ hrow _ _ hr => exec_of_mem_sha1StageRows 40 hrow hr

/-- Settles O49: the table evaluates to the rows of the stage of step 60, step 79 left out. -/
theorem sha1Stage3Steps : Obligations.Sha1Stage3Steps :=
  fun _ hrow _ _ hr => exec_of_mem_sha1StageRows 60 hrow hr

/-- Settles O50: the step with its stage's function and constant, then the two ways to leave the block; the new block's
`temp` is the one the model enters it with. -/
theorem sha1LastStepLeavesTheBlock : Obligations.Sha1LastStepLeavesTheBlock := by
  intro s r hr w h
  have hfeed : sha1Feed s.sha1.h (sha1Step r.w r.work 79) = h := by
    rw [sha1Step, sha1Shift_eq_rotateLeft, sha1Temp_eq_rotateLeft]
    rfl
  rw [exec_sha1Step79 hr]
  obtain ⟨hnext, hleave⟩ | ⟨hend, hleave⟩ := State.leaveSha1Block_cases s
    { r with work := sha1Step r.w r.work 79, temp := sha1Temp r.w r.work 79 } <;> rw [hleave, hfeed]
  · exact ⟨fun _ => ⟨Config.freeTemp (r.blk + 1), rfl⟩, fun hle => absurd hnext (Nat.not_lt.2 hle)⟩
  · exact ⟨fun hlt => absurd hlt hend, fun _ => rfl⟩

end Sys2Proof.Proofs
end

section
/-! The output stage (44_output_render.md): both engines' digests and hex strings are the engine's words rendered one
after the other, and a word's hex string is its bytes' hex strings, most significant byte first. -/

namespace Sys2Proof.Machine

/-! ## The place of a block in a concatenation -/

/-- In a concatenation of blocks of one length `n`, block `j` begins at `n * j`. -/
theorem getElem?_flatMap_block {α β : Type} {f : α → List β} {n : Nat} (hlen : ∀ a, (f a).length = n) (d : α)
    {l : List α} {j m : Nat} (hj : j < l.length) (hm : m < n) :
    (l.flatMap f)[n * j + m]? = (f (l.getD j d))[m]? := by
  induction l generalizing j with
  | nil => nomatch hj
  | cons a l ih =>
    rw [List.flatMap_cons]
    cases j with
    | zero => rw [Nat.mul_zero, Nat.zero_add, List.getElem?_append_left (by rwa [hlen]), List.getD_cons_zero]
    | succ j =>
      have hpos : n * (j + 1) + m - (f a).length = n * j + m := by rw [hlen, Nat.mul_succ]; omega
      rw [List.getElem?_append_right (by rw [hlen, Nat.mul_succ]; omega), hpos, List.getD_cons_succ,
        ih (Nat.lt_of_succ_lt_succ hj)]

/-! ## Bytes and digits of a word (00_scope.md R14, 44_output_render.md R234) -/

/-- The bytes of `bswap32` in one order are the word's bytes in the other. -/
theorem be32Bytes_bswap32 (w : Word) : be32Bytes (bswap32 w) = le32Bytes w := by
  rw [be32Bytes_eq_reverse, le32Bytes_bswap32, be32Bytes_eq_reverse, List.reverse_reverse]

theorem getElem?_le32Bytes (w : Word) {m : Nat} (hm : m < 4) : (le32Bytes w)[m]? = some (w.extractLsb' (8 * m) 8) := by
  interval_cases m <;> rfl

theorem getElem?_be32Bytes (w : Word) {m : Nat} (hm : m < 4) :
    (be32Bytes w)[m]? = some (w.extractLsb' (24 - 8 * m) 8) := by
  interval_cases m <;> rfl

theorem getElem?_hex8 (w : Word) {k : Nat} (hk : k < 8) :
    (hex8 w)[k]? = some (hexDigit (w.extractLsb' (28 - 4 * k) 4)) := by
  have hpos : 4 * (7 - k) = 28 - 4 * k := by omega
  simp [hex8, wordNibble, List.getElem?_range hk, hpos]

@[simp] theorem length_le32Bytes (w : Word) : (le32Bytes w).length = 4 := rfl

@[simp] theorem length_be32Bytes (w : Word) : (be32Bytes w).length = 4 := rfl

@[simp] theorem length_hex8 (w : Word) : (hex8 w).length = 8 := by
  simp [hex8]

/-- The two digits of a byte, the high nibble's first (R236). -/
def hexByte (v : Byte) : List Byte := [hexDigit (v.extractLsb' 4 4), hexDigit (v.extractLsb' 0 4)]

@[simp] theorem length_hexByte (v : Byte) : (hexByte v).length = 2 := rfl

/-- A nibble of byte `m` is a nibble of the word. -/
theorem extractLsb'_wordByte (w : Word) (m : Nat) {i : Nat} (hi : i + 4 ≤ 8) :
    (wordByte w m).extractLsb' i 4 = w.extractLsb' (8 * m + i) 4 := by
  ext b hb
  have hin : i + b < 8 := by omega
  simp [wordByte, hin, Nat.add_assoc]

/-- The two digits of byte `m` of a word, as the word's nibbles. -/
theorem hexByte_wordByte (w : Word) (m : Nat) :
    hexByte (wordByte w m) = [hexDigit (w.extractLsb' (8 * m + 4) 4), hexDigit (w.extractLsb' (8 * m) 4)] := by
  rw [hexByte, extractLsb'_wordByte w m (by decide), extractLsb'_wordByte w m (by decide)]
  rfl

/-- Printing a word prints its bytes, the most significant first. -/
theorem hex8_eq_flatMap_be32Bytes (w : Word) : hex8 w = (be32Bytes w).flatMap hexByte := by
  simp only [be32Bytes, List.flatMap_cons, List.flatMap_nil, hexByte_wordByte]
  rfl

/-! ## The digits (R234) -/

/-- The table of the sixteen digits. -/
theorem getElem?_hexDigits : ∀ v : BitVec 4,
    [0x30#8, 0x31#8, 0x32#8, 0x33#8, 0x34#8, 0x35#8, 0x36#8, 0x37#8, 0x38#8, 0x39#8, 0x61#8, 0x62#8,
      0x63#8, 0x64#8, 0x65#8, 0x66#8][v.toNat]? = some (hexDigit v) := by decide

/-- A character code is `0` to `9` or `a` to `f`. -/
def IsHexCode (c : Byte) : Prop := (0x30 ≤ c.toNat ∧ c.toNat ≤ 0x39) ∨ (0x61 ≤ c.toNat ∧ c.toNat ≤ 0x66)

theorem isHexCode_hexDigit (v : BitVec 4) : IsHexCode (hexDigit v) := by
  have hv : v.toNat < 16 := v.isLt
  unfold IsHexCode hexDigit
  split
  · left; rw [BitVec.toNat_ofNat]; omega
  · right; rw [BitVec.toNat_ofNat]; omega

theorem isHexCode_of_mem_flatMap_hexByte {bytes : List Byte} {c : Byte} (hc : c ∈ bytes.flatMap hexByte) :
    IsHexCode c := by
  obtain ⟨v, -, hv⟩ := List.mem_flatMap.1 hc
  obtain rfl | rfl := List.mem_pair.1 hv
  · exact isHexCode_hexDigit _
  · exact isHexCode_hexDigit _

/-! ## Lengths (R235) -/

@[simp] theorem length_md5DigestBytes (h : Md5Words) : (md5DigestBytes h).length = 16 := rfl

@[simp] theorem length_sha1DigestBytes (h : Sha1Words) : (sha1DigestBytes h).length = 20 := rfl

@[simp] theorem length_md5Hex (h : Md5Words) : (md5Hex h).length = 32 := by
  simp [md5Hex]

@[simp] theorem length_sha1Hex (h : Sha1Words) : (sha1Hex h).length = 40 := by
  simp [sha1Hex]

/-! ## The words of a digest state (R230 to R233) -/

theorem md5DigestBytes_eq_flatMap (h : Md5Words) : md5DigestBytes h = [h.a, h.b, h.c, h.d].flatMap le32Bytes := by
  simp [md5DigestBytes]

theorem md5Hex_eq_flatMap (h : Md5Words) : md5Hex h = [h.a, h.b, h.c, h.d].flatMap fun w => hex8 (bswap32 w) := by
  simp [md5Hex]

theorem sha1DigestBytes_eq_flatMap (h : Sha1Words) :
    sha1DigestBytes h = [h.a, h.b, h.c, h.d, h.e].flatMap be32Bytes := by
  simp [sha1DigestBytes]

theorem sha1Hex_eq_flatMap (h : Sha1Words) : sha1Hex h = [h.a, h.b, h.c, h.d, h.e].flatMap hex8 := by
  simp [sha1Hex]

/-- R236 for MD5: `bswap32` and the printing order undo each other. -/
theorem md5Hex_eq_flatMap_hexByte (h : Md5Words) : md5Hex h = (md5DigestBytes h).flatMap hexByte := by
  simp only [md5Hex_eq_flatMap, md5DigestBytes_eq_flatMap, List.flatMap_assoc, hex8_eq_flatMap_be32Bytes,
    be32Bytes_bswap32]

/-- R236 for SHA-1. -/
theorem sha1Hex_eq_flatMap_hexByte (h : Sha1Words) : sha1Hex h = (sha1DigestBytes h).flatMap hexByte := by
  rw [sha1Hex_eq_flatMap, sha1DigestBytes_eq_flatMap, List.flatMap_assoc]
  exact List.flatMap_congr fun w _ => hex8_eq_flatMap_be32Bytes w

section
variable (h : Md5Words) {j m : Nat} (hj : j < 4) (hm : m < 4)
include hj hm

theorem getElem?_md5DigestBytes :
    (md5DigestBytes h)[4 * j + m]? = some (([h.a, h.b, h.c, h.d].getD j 0).extractLsb' (8 * m) 8) := by
  rw [md5DigestBytes_eq_flatMap, getElem?_flatMap_block length_le32Bytes 0 hj hm, getElem?_le32Bytes _ hm]

/-- The two characters of a digest byte stand at twice its index (R236). -/
theorem getElem?_md5Hex {p : Nat} (hp : p < 2) :
    let w := [h.a, h.b, h.c, h.d].getD j 0
    (md5Hex h)[8 * j + 2 * m + p]? =
      [hexDigit (w.extractLsb' (8 * m + 4) 4), hexDigit (w.extractLsb' (8 * m) 4)][p]? := by
  intro w
  have hpos : 8 * j + 2 * m + p = 2 * (4 * j + m) + p := by omega
  have hin : 4 * j + m < (md5DigestBytes h).length := by rw [length_md5DigestBytes]; omega
  have hbyte : (md5DigestBytes h).getD (4 * j + m) 0 = wordByte w m := by
    rw [List.getD_eq_getElem?_getD, getElem?_md5DigestBytes h hj hm]
    rfl
  rw [hpos, md5Hex_eq_flatMap_hexByte, getElem?_flatMap_block length_hexByte 0 hin hp, hbyte, hexByte_wordByte]

end

section
variable (h : Sha1Words) {j : Nat} (hj : j < 5)
include hj

theorem getElem?_sha1DigestBytes {m : Nat} (hm : m < 4) :
    (sha1DigestBytes h)[4 * j + m]? = some (([h.a, h.b, h.c, h.d, h.e].getD j 0).extractLsb' (24 - 8 * m) 8) := by
  rw [sha1DigestBytes_eq_flatMap, getElem?_flatMap_block length_be32Bytes 0 hj hm, getElem?_be32Bytes _ hm]

theorem getElem?_sha1Hex {k : Nat} (hk : k < 8) :
    (sha1Hex h)[8 * j + k]? =
      some (hexDigit (([h.a, h.b, h.c, h.d, h.e].getD j 0).extractLsb' (28 - 4 * k) 4)) := by
  rw [sha1Hex_eq_flatMap, getElem?_flatMap_block length_hex8 0 hj hk, getElem?_hex8 _ hk]

end

end Sys2Proof.Machine
end

section
/-! The obligations of the output stage. -/

namespace Sys2Proof.Proofs

open Sys2Proof.Machine

/-- Settles O54: the table of the digits, the place of each byte and digit in its word's block, and R236, by which the
two characters of an MD5 digest byte are found. -/
theorem hexIsTheHexOfTheDigestBytes : Obligations.HexIsTheHexOfTheDigestBytes := by
  refine ⟨getElem?_hexDigits, fun h j hj m hm => ⟨getElem?_md5DigestBytes h hj hm, ?_, ?_⟩,
    fun h j hj => ⟨fun m hm => getElem?_sha1DigestBytes h hj hm, fun k hk => getElem?_sha1Hex h hj hk⟩,
    md5Hex_eq_flatMap_hexByte, sha1Hex_eq_flatMap_hexByte⟩
  · exact getElem?_md5Hex h hj hm (p := 0) (by decide)
  · exact getElem?_md5Hex h hj hm (p := 1) (by decide)

/-- Settles O55: every character is a digit of a digest byte (R236). -/
theorem outputLengthsAndDigits : Obligations.OutputLengthsAndDigits := by
  refine ⟨fun h => ⟨length_md5DigestBytes h, length_md5Hex h, fun c hc => ?_⟩,
    fun h => ⟨length_sha1DigestBytes h, length_sha1Hex h, fun c hc => ?_⟩⟩
  · rw [md5Hex_eq_flatMap_hexByte] at hc
    exact isHexCode_of_mem_flatMap_hexByte hc
  · rw [sha1Hex_eq_flatMap_hexByte] at hc
    exact isHexCode_of_mem_flatMap_hexByte hc

end Sys2Proof.Proofs
end

section
/-! The exceptions (60_exceptions.md): what an illegal word does to its engine (R252, R259), the causes that a command can
record (R256 to R258), and the one event that clears a fault (R259). -/

namespace Sys2Proof.Machine

section
variable {H R : Type} {A : Algo H} {cap : Nat} {p : List Byte} {op : Op} {last : Prop} {e e' : Engine H R}
  {rs : List Resp}

/-! ## Illegal words (R252, R259) -/

theorem Engine.illegal_clean (hf : e.fault = false) : e.illegal = e.raiseFault .illegalCmd :=
  if_neg (by simp [hf])

theorem Engine.illegal_faulted (hf : e.fault = true) : e.illegal = e.refuse := if_pos hf

theorem Engine.cause_illegal (e : Engine H R) :
    e.illegal.engine.cause = if e.fault then e.cause else .illegalCmd := by
  obtain ⟨hf, ha⟩ | ⟨hf, ha⟩ := e.illegal_cases <;> simp [hf, ha]

/-! ## APPEND against the capacity (R256, R258) -/

/-- APPEND on a clean engine in ACTIVE: CAPACITY is raised on the sum, and it is the only fault there. -/
theorem Engine.answer_append_active (hp : e.phase = .active) (hf : e.fault = false) (hc : e.cause = .none) :
    ((e.answer A cap p .append).engine.cause = .capacity ↔ cap < e.buf.length + p.length) ∧
      ((e.answer A cap p .append).engine.fault = true ↔ (e.answer A cap p .append).engine.cause = .capacity) ∧
      (e.buf.length + p.length = cap → (e.answer A cap p .append).engine.buf = e.buf ++ p) := by
  obtain hfit | hover := le_or_gt (e.buf.length + p.length) cap
  · rw [Engine.answer_append_fits hf hp hfit]
    exact ⟨by simp [hc, hfit], by simp [hf, hc], fun _ => rfl⟩
  · rw [Engine.answer_append_overflow hf hp hover]
    exact ⟨by simp [hover], by simp, fun hsum => absurd hsum hover.ne'⟩

/-- The phase is checked before the capacity. -/
theorem Engine.cause_answer_append_overflow (hf : e.fault = false) (hover : cap < e.buf.length + p.length) :
    (e.answer A cap p .append).engine.cause = (phaseFault .append e.phase).getD .capacity := by
  cases hc : phaseFault .append e.phase with
  | some c =>
    rw [Engine.answer_phaseFault hf hc]
    rfl
  | none =>
    rw [Engine.answer_append_overflow hf (phase_eq_active_of_phaseFault (.inl rfl) hc) hover]
    rfl

/-! ## INVARIANT is recorded by nothing (R257; log 16) -/

theorem phaseFault_ne_invariant (op : Op) (q : Phase) : phaseFault op q ≠ some .invariant := by
  cases op <;> cases q <;> decide

/-- The causes that a command can record: the phase check's, and CAPACITY. -/
theorem Engine.cause_answer_cases (A : Algo H) (cap : Nat) (p : List Byte) (op : Op) (e : Engine H R) :
    (e.answer A cap p op).engine.cause = e.cause ∨
      phaseFault op e.phase = some (e.answer A cap p op).engine.cause ∨
      (e.answer A cap p op).engine.cause = .capacity := by
  rw [Engine.answer]
  obtain ⟨-, ha⟩ | ⟨c, -, hc, ha⟩ | ⟨-, -, ha⟩ := Engine.command_cases op (A.body cap p op) e <;> rw [ha]
  · exact .inl rfl
  · exact .inr (.inl hc)
  · cases op with
    | create | render => exact .inl rfl
    | append =>
      obtain ⟨-, hb⟩ | ⟨-, hb⟩ := Engine.appendBody_cases cap p e <;> rw [Algo.body, hb]
      · exact .inr (.inr rfl)
      · exact .inl rfl
    | finalize =>
      rw [Algo.body, Engine.finalizeBody_eq]
      exact .inl rfl

theorem Engine.invariant_of_answer (h : (e.answer A cap p op).engine.cause = .invariant) : e.cause = .invariant := by
  obtain hc | hc | hc := e.cause_answer_cases A cap p op <;> rw [h] at hc
  · exact hc.symm
  · exact absurd hc (phaseFault_ne_invariant op e.phase)
  · nomatch hc

theorem Engine.Micro.cause_eq (h : Engine.Micro last e e' rs) : e'.cause = e.cause := by
  cases h <;> rfl

end

theorem exec_md5_invariant {i : Instr} {s t : State} (h : exec i s = .next t) (hc : t.md5.cause = .invariant) :
    s.md5.cause = .invariant := by
  obtain he | ⟨op, p, -, rfl, -, -⟩ | ⟨_, _, _, -, -, hm⟩ := exec_md5_engine h
  · rwa [← he]
  · rw [exec_commandInstr_md5] at h
    obtain rfl := Host.Outcome.next.inj h
    exact Engine.invariant_of_answer hc
  · exact hm.cause_eq.symm.trans hc

theorem exec_sha1_invariant {i : Instr} {s t : State} (h : exec i s = .next t) (hc : t.sha1.cause = .invariant) :
    s.sha1.cause = .invariant := by
  obtain he | ⟨op, p, -, rfl, -, -⟩ | ⟨_, _, _, -, -, hm⟩ := exec_sha1_engine h
  · rwa [← he]
  · rw [exec_commandInstr_sha1] at h
    obtain rfl := Host.Outcome.next.inj h
    exact Engine.invariant_of_answer hc
  · exact hm.cause_eq.symm.trans hc

/-! ## The steps that take an illegal word or a reset -/

section
variable {s : State} {w : Byte} {p : List Byte} {rest : List HostEvent}

theorem step_illegal_md5 (hq : s.Quiescent) (hin : s.inbox = .command ⟨w, p⟩ :: rest) (hw : 8 ≤ w.toNat)
    (hbit : w.getLsbD 2 = false) : step s = .next (State.answerMd5 { s with inbox := rest } s.md5.illegal) := by
  rw [step_illegal hq hin hw, State.illegalCommand_md5 _ hbit]

theorem step_illegal_sha1 (hq : s.Quiescent) (hin : s.inbox = .command ⟨w, p⟩ :: rest) (hw : 8 ≤ w.toNat)
    (hbit : w.getLsbD 2 = true) : step s = .next (State.answerSha1 { s with inbox := rest } s.sha1.illegal) := by
  rw [step_illegal hq hin hw, State.illegalCommand_sha1 _ hbit]

/-- The step that takes a reset (70_reset_and_hazards.md R280). -/
theorem step_reset (hq : s.Quiescent) (hin : s.inbox = .reset :: rest) :
    step s = .next (State.applyReset { s with inbox := rest }) := by
  obtain ⟨hmd5, hsha1⟩ := hq
  simp [step, fetch, fetchEvent, hmd5, hsha1, hin]

end

end Sys2Proof.Machine
end

section
/-! The obligations of the exception rules. -/

namespace Sys2Proof.Proofs

open Sys2Proof.Machine

/-- Settles O7: the word is refused by the decoder, and the clean engine of its bit 2 raises ILLEGAL_CMD. -/
theorem illegalWordFaultsItsEngine : Obligations.IllegalWordFaultsItsEngine := by
  refine fun s w p rest hq hin hw => ⟨fun hbit hf => ?_, fun hbit hf => ?_⟩
  · rw [step_illegal_md5 hq hin hw hbit, Engine.illegal_clean hf]
    rfl
  · rw [step_illegal_sha1 hq hin hw hbit, Engine.illegal_clean hf]
    rfl

/-- Settles O18: the recorded fault is checked first, for a command as for an illegal word, and reset gives both engines
the state after reset. -/
theorem faultedEngineRefusesEveryCommand : Obligations.FaultedEngineRefusesEveryCommand := by
  refine fun s p => ⟨fun hf i hi => ?_, fun hf i hi => ?_,
    fun w rest hq hin hw => ⟨fun hbit hf => ?_, fun hbit hf => ?_⟩, fun rest hq => ⟨_, step_reset hq rfl, rfl, rfl⟩⟩
  · obtain ⟨op, rfl⟩ := commandInstr_of_mem (alg := .md5) hi
    exact exec_md5_faulted op p hf
  · obtain ⟨op, rfl⟩ := commandInstr_of_mem (alg := .sha1) hi
    exact exec_sha1_faulted op p hf
  · rw [step_illegal_md5 hq hin hw hbit, Engine.illegal_faulted hf]
    rfl
  · rw [step_illegal_sha1 hq hin hw hbit, Engine.illegal_faulted hf]
    rfl

/-- Settles O56: the answer of a clean engine in ACTIVE, where the payload fits or not. -/
theorem capacityIsTheOnlyBoundOnData : Obligations.CapacityIsTheOnlyBoundOnData :=
  fun s p => ⟨fun hp hf hc => ⟨_, exec_commandInstr_md5 .append p s, Engine.answer_append_active hp hf hc⟩,
    fun hp hf hc => ⟨_, exec_commandInstr_sha1 .append p s, Engine.answer_append_active hp hf hc⟩⟩

/-- Settles O57: an overflowing APPEND records the phase's cause before CAPACITY, an illegal word its own in every phase,
a recorded cause stays, and no command or micro-operation records INVARIANT. -/
theorem faultPriority : Obligations.FaultPriority := by
  refine ⟨fun s p hf hover => ⟨_, exec_commandInstr_md5 .append p s, ?_⟩,
    fun s p hf hover => ⟨_, exec_commandInstr_sha1 .append p s, ?_⟩,
    fun s w p rest hq hin hw => ⟨_, step_illegal hq hin hw, fun hbit => ?_, fun hbit => ?_⟩, fun i s t ht => ?_⟩
  · exact (Engine.cause_answer_append_overflow hf hover).trans (by cases s.md5.phase <;> rfl)
  · exact (Engine.cause_answer_append_overflow hf hover).trans (by cases s.sha1.phase <;> rfl)
  · rw [State.illegalCommand_md5 _ hbit]
    exact s.md5.cause_illegal
  · rw [State.illegalCommand_sha1 _ hbit]
    exact s.sha1.cause_illegal
  · obtain ⟨hmd5, hsha1⟩ := exec_keepsFault ht
    exact ⟨fun hf => (hmd5 hf).2, fun hf => (hsha1 hf).2, exec_md5_invariant ht, exec_sha1_invariant ht⟩

end Sys2Proof.Proofs
end

section
/-! The obligation of reset (70_reset_and_hazards.md R280). -/

namespace Sys2Proof.Proofs

open Sys2Proof.Machine

/-- Settles O8: the step is `State.applyReset` on what is left of the host stream, and makes each engine
`Engine.afterReset`, whatever it held. -/
theorem resetEventResetsBothEngines : Obligations.ResetEventResetsBothEngines := by
  intro s rest hq hin
  refine ⟨_, step_reset hq hin, ?_⟩
  simp

end Sys2Proof.Proofs
end
